-- ==== Sys2Proof/Word.lean ====
section
/-! DEFINITION. The widths of the LC-340's values (spec 11_formats.md, 02 R25). -/

namespace Sys2Proof

/-- One byte of a management-port or link message. -/
abbrev Byte := BitVec 8

/-- A 16-bit value: key, plateau, label, CRC, generation, publication counter, knot index. -/
abbrev Word := BitVec 16

/-- A knot value, 0-4095 (R25, R32). -/
abbrev Knot := BitVec 12

/-- The number of a stream, view, lookup port, boundary line or baseline slot, 0-3. -/
abbrev Stream := Fin 4

/-- A set of streams: bit n names stream n (11_formats.md). -/
abbrev StreamMask := BitVec 4

/-- The index of a Profile Table entry, 0-63 (R1). -/
abbrev EntryIndex := Fin 64

end Sys2Proof
end

