-- ==== Sys2Proof/Config.lean ====
section
/-! DEFINITION. What the model fixes where the spec leaves a choice, and the constants of the part. -/

namespace Sys2Proof.Config

/-- REFCLK periods to the millisecond (R128). -/
def refclkPerMs : Nat := 25000

/-- The parity bit that agrees with a knot value: even parity over the 12 bits.
DESIGN CHOICE (log entry 4): the spec gives no sense for the parity bit; only agreement can be seen. -/
def parityOf (v : Knot) : Bool :=
  (List.range 12).foldl (fun p i => p ^^ v.toNat.testBit i) false

/-- The value an unlisted knot word reads as. DESIGN CHOICE (log entry 3): R25 says that no reader sees it. -/
def unlistedKnot : Knot := 0

/-- The levels of ADDR1:ADDR0 sampled at the reset that `State.reset` follows. DESIGN CHOICE (log entry 2). -/
def resetStraps : BitVec 2 := 0

/-- The base of the primary address (R164). -/
def primaryBase : BitVec 7 := 0x2C

/-- The group address after a device reset (R172). -/
def groupAddressReset : BitVec 7 := 0x58

/-- The stall limit after a device reset, in milliseconds (R117). -/
def stallLimitReset : Byte := 20

end Sys2Proof.Config
end

