-- ==== Sys2Proof/Syntax.lean ====
section
/-! DEFINITION. The commands and events of spec/opcode_table.json, one constructor a row, and what they carry. -/

namespace Sys2Proof

/-- A handle as a request carries it: entry index byte, revision byte (11_formats.md). -/
structure RawHandle where
  index : Byte
  revision : Byte
deriving DecidableEq, Repr

/-- The level of a boundary line (R91). -/
inductive LineLevel where
  | low
  | high
deriving DecidableEq, Repr

/-- What a stored fault does to one word (R45): the value it holds afterwards, and whether its parity bit agrees
with that value. A word that already held a fault holds one afterwards whatever `agrees` says. -/
structure WordUpset where
  value : Knot
  agrees : Bool
deriving DecidableEq, Repr

/-- A stored fault that strikes knot `index` of an entry after a baseline load has written it and before the check
that follows has read it (R10, R159, R162; log entry 6). -/
structure LoadUpset where
  index : Nat
  upset : WordUpset
deriving DecidableEq, Repr

/-- The levels of FB0 to FB3 as a device reset takes them (R92). -/
structure LineLevels where
  fb0 : LineLevel
  fb1 : LineLevel
  fb2 : LineLevel
  fb3 : LineLevel
deriving DecidableEq, Repr

/-- For each port, how many bytes of messages its outgoing lane has sent since the device reset before, idle bytes not
counted (R114; log entry 18). -/
structure LaneCounts where
  lp0 : Nat
  lp1 : Nat
  lp2 : Nat
  lp3 : Nat
deriving DecidableEq, Repr

/-- What a device reset meets outside the blocks' own records: the line levels when it ends (R92), and how far each
outgoing lane had sent when it came (R114). -/
structure ResetMoment where
  levels : LineLevels
  sent : LaneCounts
deriving DecidableEq, Repr

/-- The other parts on the bus that are acknowledgers of the same group address (R173, R175): none; one or more, all
of them BUSY; or at least one whose engine takes request bytes. -/
inductive OtherAcknowledgers where
  | absent
  | busy
  | ready
deriving DecidableEq, Repr

/-- A message of the incoming lane that the port frames by its kind byte (R182), fields as received. -/
inductive LinkMessage where
  | lookup (tag : Byte) (key : Word) (firstRow rowCount : Byte)
  | credit (n : Byte)
  | cancel (tag : Byte)
  | reset
deriving DecidableEq, Repr

/-- The requests of chapter 11's request table, with their raw parameters. -/
inductive Request where
  | create (columns rows channels format : Byte) (label : Word)
  | delete (handle : RawHandle)
  | queryProfile (handle : RawHandle)
  | queryStore
  | writeKnots (handle : RawHandle) (first : Word) (count : Byte) (knots : List Word)
  | readKnots (handle : RawHandle) (first : Word) (count : Byte)
  | finish (handle : RawHandle) (crc : Word)
  | verify (handle : RawHandle)
  | configureView (stream columns rows channels format : Byte)
  | queryView (stream : Byte)
  | attach (stream : Byte) (handle : RawHandle) (key plateau : Word)
  | detach (stream : Byte) (handle : RawHandle)
  | move (stream : Byte) (handle : RawHandle) (key plateau : Word)
  | commit (mask targetKind : Byte) (count : Word)
  | withdraw (mask : Byte)
  | discard (mask : Byte)
  | queryEdits (stream : Byte)
  | point (mask : Byte)
  | setPoints (stream source polarity prescale : Byte)
  | clearCounts (mask : Byte)
  | queryPoints
  | setPort (port enable stallLimit : Byte)
  | queryPort (port : Byte)
  | programBaseline (slot : Byte) (handle : RawHandle) (key plateau : Word)
  | restoreBaseline (slot : Byte)
  | querySlot (slot : Byte)
  | setGroup (address enable acknowledger : Byte)
  | setAlerts (mask : Byte) (watermark : Word)
  | readAlerts
deriving DecidableEq, Repr

/-- The commands and events, one constructor for each row of spec/opcode_table.json, in the table's order.
A request row carries its tag and raw parameters as a write to the primary address brings them. -/
inductive Instr where
  /-- CREATE (R8) -/
  | create (tag columns rows channels format : Byte) (label : Word)
  /-- DELETE (R11) -/
  | delete (tag : Byte) (handle : RawHandle)
  /-- QUERY_PROFILE (R23) -/
  | queryProfile (tag : Byte) (handle : RawHandle)
  /-- QUERY_STORE (R24) -/
  | queryStore (tag : Byte)
  /-- WRITE_KNOTS (R34); each knot as its two bytes are received -/
  | writeKnots (tag : Byte) (handle : RawHandle) (first : Word) (count : Byte) (knots : List Word)
  /-- READ_KNOTS (R36) -/
  | readKnots (tag : Byte) (handle : RawHandle) (first : Word) (count : Byte)
  /-- FINISH (R39) -/
  | finish (tag : Byte) (handle : RawHandle) (crc : Word)
  /-- FINISH_COMPLETE (R40) -/
  | finishComplete
  /-- VERIFY (R42) -/
  | verify (tag : Byte) (handle : RawHandle)
  /-- VERIFY_COMPLETE (R43) -/
  | verifyComplete
  /-- CONFIGURE_VIEW (R57) -/
  | configureView (tag stream columns rows channels format : Byte)
  /-- QUERY_VIEW (R60) -/
  | queryView (tag stream : Byte)
  /-- ATTACH (R70) -/
  | attach (tag stream : Byte) (handle : RawHandle) (key plateau : Word)
  /-- DETACH (R71) -/
  | detach (tag stream : Byte) (handle : RawHandle)
  /-- MOVE (R71) -/
  | move (tag stream : Byte) (handle : RawHandle) (key plateau : Word)
  /-- COMMIT (R74) -/
  | commit (tag mask targetKind : Byte) (count : Word)
  /-- WITHDRAW (R85) -/
  | withdraw (tag mask : Byte)
  /-- DISCARD (R87) -/
  | discard (tag mask : Byte)
  /-- QUERY_EDITS (R89) -/
  | queryEdits (tag stream : Byte)
  /-- POINT (R96) -/
  | point (tag mask : Byte)
  /-- SET_POINTS (R98) -/
  | setPoints (tag stream source polarity prescale : Byte)
  /-- CLEAR_COUNTS (R100) -/
  | clearCounts (tag mask : Byte)
  /-- QUERY_POINTS (R101) -/
  | queryPoints (tag : Byte)
  /-- SET_PORT (R134) -/
  | setPort (tag port enable stallLimit : Byte)
  /-- QUERY_PORT (R135) -/
  | queryPort (tag port : Byte)
  /-- PROGRAM_BASELINE (R154) -/
  | programBaseline (tag slot : Byte) (handle : RawHandle) (key plateau : Word)
  /-- SCAN_END (R155) -/
  | scanEnd
  /-- PROGRAM_WRITE_END (R156); `recorded`: a write of SPOILED made here takes (R152) -/
  | programWriteEnd (recorded : Bool)
  /-- PROGRAM_VERIFY_END (R156); `writesTook`: every nonvolatile write of the fields took, VPP being present;
  `recorded`: the write of the slot's final state takes (R152) -/
  | programVerifyEnd (writesTook recorded : Bool)
  /-- RESTORE_BASELINE (R158) -/
  | restoreBaseline (tag slot : Byte)
  /-- RESTORE_COMPLETE (R159), with the stored faults that strike between a word's write and the check's read of it -/
  | restoreComplete (upsets : List LoadUpset)
  /-- QUERY_SLOT (R160) -/
  | querySlot (tag slot : Byte)
  /-- SET_GROUP (R172) -/
  | setGroup (tag address enable acknowledger : Byte)
  /-- SET_ALERTS (R177) -/
  | setAlerts (tag mask : Byte) (watermark : Word)
  /-- READ_ALERTS (R178) -/
  | readAlerts (tag : Byte)
  /-- UNKNOWN_REQUEST (R166): the bytes of the write after its selector 0x01 -/
  | unknownRequest (message : List Byte)
  /-- REQUEST_FORMAT_ERROR (R180): the bytes of the write after its selector 0x01 -/
  | requestFormatError (message : List Byte)
  /-- BUSY_NACK (R169): the bytes of the write after its selector 0x01 -/
  | busyNack (message : List Byte)
  /-- WINDOW_SELECT (R165): a write's selector byte and the bytes after it -/
  | windowSelect (selector : Byte) (extra : List Byte)
  /-- ABORT (R171): the byte after the selector 0x03 and any further bytes of the write -/
  | abort (value : Byte) (extra : List Byte)
  /-- GROUP_WRITE (R174): the group address written to, what the other acknowledgers do, and the bytes of the write,
  the selector first -/
  | groupWrite (address : BitVec 7) (others : OtherAcknowledgers) (bytes : List Byte)
  /-- BOUNDARY_EDGE (R93): the line and the level it has changed to -/
  | boundaryEdge (line : Stream) (level : LineLevel)
  /-- LOOKUP (R121) -/
  | lookup (port : Stream) (tag : Byte) (key : Word) (firstRow rowCount : Byte)
  /-- CREDIT (R127) -/
  | credit (port : Stream) (n : Byte)
  /-- CANCEL (R130) -/
  | cancel (port : Stream) (tag : Byte)
  /-- LINK_RESET (R132) -/
  | linkReset (port : Stream)
  /-- BAD_MESSAGE (R116): the bytes that arrive on the incoming lane -/
  | badMessage (port : Stream) (bytes : List Byte)
  /-- LINK_MESSAGE_HELD (R133) -/
  | linkMessageHeld (port : Stream) (message : LinkMessage)
  /-- GRANT (R137) -/
  | grant
  /-- HANDOVER (R139) -/
  | handover
  /-- FAULT_REPORT (R142) -/
  | faultReport
  /-- STALL_EXPIRY (R129) -/
  | stallExpiry (port : Stream)
  /-- DEVICE_RESET (R161): the line levels and straps as they stand when the reset ends (R92, R164), and how far each
  outgoing lane had sent when it came (R114) -/
  | deviceReset (moment : ResetMoment) (straps : BitVec 2)
  /-- SLOT_LOAD (R162), with the stored faults that strike between a word's write and the check's read of it -/
  | slotLoad (slot : Stream) (upsets : List LoadUpset)
  /-- PARITY_FAULT (R45): the page and offset of the word, and what happens to it -/
  | parityFault (page : Fin 512) (offset : Fin 64) (upset : WordUpset)
  /-- IDLE_BYTE (R116) -/
  | idleByte (port : Stream)
deriving DecidableEq, Repr

end Sys2Proof
end

