-- ==== Sys2Proof/Decode.lean ====
section
/-! DEFINITION. `decodeTableWord` (the opcode table gives no bits), and the byte formats of chapter 11 that arrive at
the part: request messages and incoming link messages, with their encoders. -/

namespace Sys2Proof

/-! ### Bytes of wider values (11_formats.md: most significant byte first) -/

/-- The high byte of a 16-bit value. -/
def hiByte (w : Word) : Byte := BitVec.ofNat 8 (w.toNat / 256)

/-- The low byte of a 16-bit value. -/
def loByte (w : Word) : Byte := BitVec.ofNat 8 w.toNat

/-- The 16-bit value of two bytes, high byte first. -/
def wordOf (hi lo : Byte) : Word := BitVec.ofNat 16 (hi.toNat * 256 + lo.toNat)

/-- A 16-bit value as its two bytes. -/
def wordBytes (w : Word) : List Byte := [hiByte w, loByte w]

/-- A knot as its two bytes: the upper four bits in the low half of the first, then the low byte. -/
def knotBytes (k : Knot) : List Byte := [BitVec.ofNat 8 (k.toNat / 256), BitVec.ofNat 8 k.toNat]

/-- The 16-bit values of a list of bytes taken two by two (an odd last byte is left out). -/
def wordsOf : List Byte → List Word
  | hi :: lo :: rest => wordOf hi lo :: wordsOf rest
  | _ => []

/-- The bytes of a handle: index, revision. -/
def RawHandle.bytes (h : RawHandle) : List Byte := [h.index, h.revision]

/-! ### Request messages (R166, R180) -/

/-- The request code of each request (11_formats.md, section 11.1). -/
def Request.code : Request → Byte
  | .create .. => 0x10
  | .delete .. => 0x11
  | .queryProfile .. => 0x12
  | .queryStore => 0x13
  | .writeKnots .. => 0x14
  | .readKnots .. => 0x15
  | .finish .. => 0x16
  | .verify .. => 0x17
  | .configureView .. => 0x20
  | .queryView .. => 0x21
  | .attach .. => 0x22
  | .detach .. => 0x23
  | .move .. => 0x24
  | .commit .. => 0x25
  | .withdraw .. => 0x26
  | .discard .. => 0x27
  | .queryEdits .. => 0x28
  | .point .. => 0x30
  | .setPoints .. => 0x31
  | .clearCounts .. => 0x32
  | .queryPoints => 0x33
  | .setPort .. => 0x40
  | .queryPort .. => 0x41
  | .programBaseline .. => 0x50
  | .restoreBaseline .. => 0x51
  | .querySlot .. => 0x52
  | .setGroup .. => 0x60
  | .setAlerts .. => 0x61
  | .readAlerts => 0x62

/-- The parameter bytes of each request, in the order of the table of section 11.1. -/
def Request.params : Request → List Byte
  | .create c r ch f l => [c, r, ch, f] ++ wordBytes l
  | .delete h => h.bytes
  | .queryProfile h => h.bytes
  | .queryStore => []
  | .writeKnots h first count ks => h.bytes ++ wordBytes first ++ [count] ++ ks.flatMap wordBytes
  | .readKnots h first count => h.bytes ++ wordBytes first ++ [count]
  | .finish h crc => h.bytes ++ wordBytes crc
  | .verify h => h.bytes
  | .configureView n c r ch f => [n, c, r, ch, f]
  | .queryView n => [n]
  | .attach n h k p => [n] ++ h.bytes ++ wordBytes k ++ wordBytes p
  | .detach n h => [n] ++ h.bytes
  | .move n h k p => [n] ++ h.bytes ++ wordBytes k ++ wordBytes p
  | .commit m kind n => [m, kind] ++ wordBytes n
  | .withdraw m => [m]
  | .discard m => [m]
  | .queryEdits n => [n]
  | .point m => [m]
  | .setPoints n src pol pre => [n, src, pol, pre]
  | .clearCounts m => [m]
  | .queryPoints => []
  | .setPort p e l => [p, e, l]
  | .queryPort p => [p]
  | .programBaseline n h k p => [n] ++ h.bytes ++ wordBytes k ++ wordBytes p
  | .restoreBaseline n => [n]
  | .querySlot n => [n]
  | .setGroup a e k => [a, e, k]
  | .setAlerts m w => [m] ++ wordBytes w
  | .readAlerts => []

/-- A request message: code, tag, parameter length, parameters (R166). -/
def encodeRequest (tag : Byte) (r : Request) : List Byte :=
  r.code :: tag :: BitVec.ofNat 8 r.params.length :: r.params

/-- The codes of the request table (11_formats.md, section 11.1). -/
def requestCodes : List Byte :=
  [0x10, 0x11, 0x12, 0x13, 0x14, 0x15, 0x16, 0x17, 0x20, 0x21, 0x22, 0x23, 0x24, 0x25, 0x26, 0x27, 0x28,
   0x30, 0x31, 0x32, 0x33, 0x40, 0x41, 0x50, 0x51, 0x52, 0x60, 0x61, 0x62]

/-- The request that a known code and its parameter bytes spell; `none` where the number of parameter bytes is not the
length the code calls for (R180), or the code is not a request code. -/
def parseParams (code : Byte) (ps : List Byte) : Option Request :=
  match code.toNat with
  | 0x10 => match ps with
    | [c, r, ch, f, l1, l0] => some (.create c r ch f (wordOf l1 l0))
    | _ => none
  | 0x11 => match ps with
    | [i, v] => some (.delete ⟨i, v⟩)
    | _ => none
  | 0x12 => match ps with
    | [i, v] => some (.queryProfile ⟨i, v⟩)
    | _ => none
  | 0x13 => match ps with
    | [] => some .queryStore
    | _ => none
  | 0x14 => match ps with
    | i :: v :: f1 :: f0 :: c :: ks =>
      if ks.length = 2 * c.toNat then some (.writeKnots ⟨i, v⟩ (wordOf f1 f0) c (wordsOf ks)) else none
    | _ => none
  | 0x15 => match ps with
    | [i, v, f1, f0, c] => some (.readKnots ⟨i, v⟩ (wordOf f1 f0) c)
    | _ => none
  | 0x16 => match ps with
    | [i, v, c1, c0] => some (.finish ⟨i, v⟩ (wordOf c1 c0))
    | _ => none
  | 0x17 => match ps with
    | [i, v] => some (.verify ⟨i, v⟩)
    | _ => none
  | 0x20 => match ps with
    | [n, c, r, ch, f] => some (.configureView n c r ch f)
    | _ => none
  | 0x21 => match ps with
    | [n] => some (.queryView n)
    | _ => none
  | 0x22 => match ps with
    | [n, i, v, k1, k0, p1, p0] => some (.attach n ⟨i, v⟩ (wordOf k1 k0) (wordOf p1 p0))
    | _ => none
  | 0x23 => match ps with
    | [n, i, v] => some (.detach n ⟨i, v⟩)
    | _ => none
  | 0x24 => match ps with
    | [n, i, v, k1, k0, p1, p0] => some (.move n ⟨i, v⟩ (wordOf k1 k0) (wordOf p1 p0))
    | _ => none
  | 0x25 => match ps with
    | [m, kind, n1, n0] => some (.commit m kind (wordOf n1 n0))
    | _ => none
  | 0x26 => match ps with
    | [m] => some (.withdraw m)
    | _ => none
  | 0x27 => match ps with
    | [m] => some (.discard m)
    | _ => none
  | 0x28 => match ps with
    | [n] => some (.queryEdits n)
    | _ => none
  | 0x30 => match ps with
    | [m] => some (.point m)
    | _ => none
  | 0x31 => match ps with
    | [n, src, pol, pre] => some (.setPoints n src pol pre)
    | _ => none
  | 0x32 => match ps with
    | [m] => some (.clearCounts m)
    | _ => none
  | 0x33 => match ps with
    | [] => some .queryPoints
    | _ => none
  | 0x40 => match ps with
    | [p, e, l] => some (.setPort p e l)
    | _ => none
  | 0x41 => match ps with
    | [p] => some (.queryPort p)
    | _ => none
  | 0x50 => match ps with
    | [n, i, v, k1, k0, p1, p0] => some (.programBaseline n ⟨i, v⟩ (wordOf k1 k0) (wordOf p1 p0))
    | _ => none
  | 0x51 => match ps with
    | [n] => some (.restoreBaseline n)
    | _ => none
  | 0x52 => match ps with
    | [n] => some (.querySlot n)
    | _ => none
  | 0x60 => match ps with
    | [a, e, k] => some (.setGroup a e k)
    | _ => none
  | 0x61 => match ps with
    | [m, w1, w0] => some (.setAlerts m (wordOf w1 w0))
    | _ => none
  | 0x62 => match ps with
    | [] => some .readAlerts
    | _ => none
  | _ => none

/-- How the request engine judges the bytes of a request write (R166, R180). -/
inductive Judged where
  /-- answered FORMAT, echoing the code and tag bytes received, 0x00 for one not received -/
  | format (code tag : Byte)
  /-- a complete message whose code is not a request code: answered UNKNOWN_REQUEST -/
  | unknown (code tag : Byte)
  /-- a complete message of the right length: goes on to its owning checks -/
  | taken (tag : Byte) (request : Request)
deriving DecidableEq, Repr

/-- The judgement of R166 and R180 over the bytes after the selector. -/
def judgeRequest : List Byte → Judged
  | [] => .format 0 0
  | [code] => .format code 0
  | [code, tag] => .format code tag
  | code :: tag :: len :: ps =>
    if 64 < len.toNat ∨ ps.length ≠ len.toNat then .format code tag
    else if requestCodes.contains code then
      match parseParams code ps with
      | some r => .taken tag r
      | none => .format code tag
    else .unknown code tag

/-- Whether an IDLE part acknowledges the request byte at position i after the selector of a write (R166): a byte
beyond the length called for, and any 69th byte of the write, is NACKed. -/
def ackRequestByte (message : List Byte) (i : Nat) : Bool :=
  match message with
  | _ :: _ :: len :: _ => i < 3 || (i - 3 < len.toNat && i < 67)
  | _ => true

/-! ### Incoming link messages (R114, R115, R182) -/

/-- One bit into the CRC-8 register (R115). -/
def crc8Bit (reg : Byte) (bit : Bool) : Byte :=
  if reg.msb != bit then (reg <<< 1) ^^^ 0x07#8 else reg <<< 1

/-- One byte into the CRC-8 register, most significant bit first (R115). -/
def crc8Byte (reg byte : Byte) : Byte :=
  [7, 6, 5, 4, 3, 2, 1, 0].foldl (fun r i => crc8Bit r (byte.getLsbD i)) reg

/-- The CRC-8 of a message's bytes: polynomial 0x07, initial value 0, no final inversion (R115). -/
def crc8 (bytes : List Byte) : Byte := bytes.foldl crc8Byte 0

/-- The kind byte and fields of an incoming message, without its check byte (11_formats.md, section 11.3). -/
def LinkMessage.body : LinkMessage → List Byte
  | .lookup tag key first count => 0x11 :: tag :: wordBytes key ++ [first, count]
  | .credit n => [0x12, n]
  | .cancel tag => [0x13, tag]
  | .reset => [0x14]

/-- An incoming message as it arrives: kind byte, fields, check byte. -/
def LinkMessage.encode (m : LinkMessage) : List Byte := m.body ++ [crc8 m.body]

/-- The fields lie in the ranges their kinds allow (R116). -/
def LinkMessage.fieldsOk : LinkMessage → Bool
  | .lookup tag _ _ _ => tag.toNat < 16
  | .credit n => 1 ≤ n.toNat && n.toNat ≤ 4
  | .cancel tag => tag.toNat < 16
  | .reset => true

/-- The whole length of the incoming message that a kind byte begins; `none` for an unknown kind (R116, R182). -/
def messageLength (kind : Byte) : Option Nat :=
  if kind = 0x11 then some 7
  else if kind = 0x12 then some 3
  else if kind = 0x13 then some 3
  else if kind = 0x14 then some 2
  else none

/-- The message that the framed bytes spell, check byte included; `none` where the check byte disagrees (R115). -/
def parseMessage (bytes : List Byte) : Option LinkMessage :=
  if bytes.getLast? = some (crc8 bytes.dropLast) then
    match bytes with
    | [k, tag, k1, k0, first, count, _] =>
      if k = 0x11 then some (.lookup tag (wordOf k1 k0) first count) else none
    | [k, x, _] => if k = 0x12 then some (.credit x) else if k = 0x13 then some (.cancel x) else none
    | [k, _] => if k = 0x14 then some .reset else none
    | _ => none
  else none

/-! ### The opcode table's bits -/

/-- The table gives no row any bits, so no word spells a command. -/
def decodeTableWord (_nbits _w : Nat) : Option Instr := none

end Sys2Proof
end

