-- ==== Sys2Proof/Machine/State.lean ====
section
/-! DEFINITION. Every piece of state the spec gives the LC-340, as plain data, and the state right after a device reset. -/

namespace Sys2Proof.Machine

/-! ### Profile Table (01_the_profile_table.md) -/

/-- The fixed-point reading of a knot (R32). -/
inductive Format where
  | uq1_11
  | uq2_10
  | uq3_9
deriving DecidableEq, Repr

/-- Columns, rows and channels of a grid (R1). -/
structure Geometry where
  columns : Nat
  rows : Nat
  channels : Nat
deriving DecidableEq, Repr

/-- Who supplied a profile (R1, R22). -/
inductive Origin where
  | host
  | baseline (slot : Stream)
deriving DecidableEq, Repr

/-- Where an entry stands in its lifecycle (R2). -/
inductive EntryState where
  | free
  | loading
  | staged
  | live
  | draining
deriving DecidableEq, Repr

/-- The fields of an entry that are absent while it is FREE (R2): origin, geometry (and with it the knot count, R8),
format and label. -/
structure Profile where
  origin : Origin
  geometry : Geometry
  format : Format
  label : Word
deriving DecidableEq, Repr

/-- One record of the Profile Table (R1). -/
structure Entry where
  revision : Byte
  state : EntryState
  profile : Option Profile
  pages : List Nat
  checkValue : Option Word
  damaged : Bool
  membership : StreamMask
  pendingRefs : Nat
  lookupRefs : Nat
deriving DecidableEq, Repr

/-- A FREE entry that keeps its revision (R2). -/
def Entry.freed (revision : Byte) : Entry :=
  { revision := revision, state := .free, profile := none, pages := [], checkValue := none, damaged := false,
    membership := 0, pendingRefs := 0, lookupRefs := 0 }

/-- A handle that names an entry of the table (R5). -/
structure Handle where
  index : EntryIndex
  revision : Byte
deriving DecidableEq, Repr

/-! ### Knot Memory (02_knot_memory_and_profile_loading.md) -/

/-- A stored knot word: its value and its parity bit (R25). -/
structure KnotWord where
  value : Knot
  parity : Bool
deriving DecidableEq, Repr

/-- The words of the Knot Memory by address, 64 x page + offset (R25, R31): addresses strictly rising, and no entry
equal to what an unlisted address reads as. -/
abbrev Memory := List (Nat × KnotWord)

/-! ### View Store (03_stream_views.md) -/

/-- The geometry and format of a CONFIGURED view (R50). -/
structure ViewConfig where
  geometry : Geometry
  format : Format
deriving DecidableEq, Repr

/-- An anchor record (R53). -/
structure Anchor where
  handle : Handle
  key : Word
  plateau : Word
deriving DecidableEq, Repr

/-- A view record (R50); `config = none` is UNCONFIGURED. -/
structure View where
  config : Option ViewConfig
  anchors : List Anchor
  generation : Word
deriving DecidableEq, Repr

/-! ### Edit Unit (04_edits_and_commits.md) -/

/-- An edit record (R67). -/
inductive Edit where
  | attach (handle : Handle) (key plateau : Word)
  | detach (handle : Handle)
  | move (handle : Handle) (key plateau : Word)
deriving DecidableEq, Repr

/-- A pending list with its armed state: ARMED exactly while a target is present (R66). -/
structure EditList where
  edits : List Edit
  target : Option Word
deriving DecidableEq, Repr

/-! ### Point Unit (05_publication_points.md) -/

/-- The edge a stream counts (R91). -/
inductive Polarity where
  | rising
  | falling
deriving DecidableEq, Repr

/-- A point record (R91). -/
structure PointRecord where
  source : Stream
  polarity : Polarity
  prescale : Nat
  edgeCount : Nat
  counter : Word
deriving DecidableEq, Repr

/-! ### Lookup Ports (06, 07) -/

/-- The selection of an accepted lookup (R103): its kind with the anchors and weight that kind holds. -/
inductive Selection where
  | pure (a : Handle)
  | blend (a b : Handle) (weight : Byte)
  | degraded (a : Handle)
  | fallback
deriving DecidableEq, Repr

/-- A lookup record (R122) with its kept items (R62). -/
structure Lookup where
  tag : Byte
  selection : Selection
  geometry : Geometry
  format : Format
  generation : Word
  counter : Word
  rowsOwed : List Nat
  granted : Option Nat
  cancelling : Bool
  resetting : Bool
  rowsSent : Nat
deriving DecidableEq, Repr

/-- The stall timer: stopped, or running with the REFCLK periods it has run and the limit in milliseconds that it
recorded at its start (R117, R128). -/
inductive Timer where
  | stopped
  | running (elapsed : Nat) (limit : Nat)
deriving DecidableEq, Repr

/-- The framing of the incoming lane (R114, R116, R118, R182): skipping every byte until an idle byte, waiting for a
kind byte, or inside a message with the bytes received of it. -/
inductive Framing where
  | skipping
  | waiting
  | inside (bytes : List Byte)
deriving DecidableEq, Repr

/-- END statuses (11_formats.md, section 11.3). -/
inductive EndStatus where
  | complete
  | degraded
  | fallback
  | cancelled
  | stalled
  | damaged
  | queueFull
  | range
  | notReady
  | unconfigured
  | disabled
deriving DecidableEq, Repr

/-- NOTICE kinds, with the tag of those that carry one (11_formats.md, section 11.3). -/
inductive Notice where
  | ready
  | badMessage
  | creditOverflow
  | unknownTag (tag : Byte)
  | tagInUse (tag : Byte)
  | resetDone
deriving DecidableEq, Repr

/-- What a header says of an anchor (R148): handle, label, origin. -/
structure AnchorItem where
  handle : Handle
  label : Word
  origin : Origin
deriving DecidableEq, Repr

/-- The selection kind as a header reports it (R148). -/
inductive SelectionKind where
  | pure
  | blend
  | degraded
  | fallback
deriving DecidableEq, Repr

/-- The items of a provenance header (R148). -/
structure Header where
  tag : Byte
  stream : Stream
  kind : SelectionKind
  generation : Word
  counter : Word
  geometry : Geometry
  format : Format
  firstRow : Nat
  rowCount : Nat
  anchorA : Option AnchorItem
  anchorB : Option AnchorItem
  weight : Option Byte
deriving DecidableEq, Repr

/-- A message made on the outgoing lane (section 7.1). -/
inductive OutMessage where
  | header (h : Header)
  | row (tag : Byte) (row : Nat) (knots : List Knot)
  | ended (tag : Byte) (status : EndStatus)
  | notice (n : Notice)
deriving DecidableEq, Repr

/-- A lookup port's record (R117), with its lane framing, the messages it holds behind a reset (R133), the messages it
has made since the last device reset, oldest first, and the bytes it had sent of the message which that reset cut off
(R114; log entry 18). -/
structure Port where
  active : Bool
  enabled : Bool
  queue : List Lookup
  credits : Nat
  stallLimit : Byte
  timer : Timer
  framing : Framing
  held : List LinkMessage
  out : List OutMessage
  cut : List Byte
deriving DecidableEq, Repr

/-! ### Surface Engine (08_the_surface_engine.md) -/

/-- A row in production (R136). -/
structure Producing where
  port : Stream
  tag : Byte
  row : Nat
deriving DecidableEq, Repr

/-! ### Baseline Store (09_baseline_slots_and_start_up.md) -/

/-- The stored state of a slot (R151). -/
inductive SlotState where
  | blank
  | programming
  | programmed
  | spoiled
deriving DecidableEq, Repr

/-- The fields a programmed slot stores (R151); geometry and format as the stored bytes, which may be out of range
(R152). -/
structure SlotFields where
  columns : Byte
  rows : Byte
  channels : Byte
  format : Byte
  key : Word
  plateau : Word
  label : Word
  bases : List Knot
  deltas : List Byte
  crc : Word
deriving DecidableEq, Repr

/-- A slot record (R151). `fields` is `none` where the slot holds no field that is used. -/
structure Slot where
  state : SlotState
  fields : Option SlotFields
deriving DecidableEq, Repr

/-- The stage of a PROGRAM_BASELINE (section 9.3), with the bases the scan found. -/
inductive ProgramStage where
  | scan
  | write (bases : List Knot)
  | verify (bases : List Knot)
deriving DecidableEq, Repr

/-! ### Management Port (10_the_management_port_and_alerts.md) -/

/-- The long request in progress with what it was asked to do (R168). -/
inductive Job where
  | finish (entry : EntryIndex) (crc : Word)
  | verify (entry : EntryIndex)
  | restore (slot : Stream) (entry : EntryIndex)
  | program (slot : Stream) (entry : EntryIndex) (key plateau : Word) (stage : ProgramStage)
deriving DecidableEq, Repr

/-- The request engine (R168). While STARTING it holds the slot whose load is in progress and the entry allocated for
it, if any (R161, R162). -/
inductive Engine where
  | starting (slot : Stream) (entry : Option EntryIndex)
  | idle
  | busy (tag : Byte) (job : Job)
deriving DecidableEq, Repr

/-- The windows of the management port (R165). -/
inductive Window where
  | request
  | response
  | abort
  | status
deriving DecidableEq, Repr

/-- Result codes (11_formats.md, section 11.2). -/
inductive Result where
  | ok
  | none_
  | format
  | unknownRequest
  | range
  | stale
  | state
  | tableFull
  | noSpace
  | checkMismatch
  | parity
  | inUse
  | live
  | damaged
  | unconfigured
  | geometry
  | viewBusy
  | armed
  | listFull
  | duplicate
  | notMember
  | layout
  | nothingPending
  | tooLate
  | slotUsed
  | slotEmpty
  | slotSpoiled
  | programFailed
  | aborted
  | groupRefused
deriving DecidableEq, Repr

/-- The response window's message (R167). -/
structure Response where
  tag : Byte
  code : Byte
  result : Result
  data : List Byte
deriving DecidableEq, Repr

/-- The alert conditions, each a kind with its subject (R176). -/
inductive Alert where
  | applied (stream : Stream)
  | damaged (entry : EntryIndex)
  | poolLow
  | baselineBad (slot : Stream)
  | groupMissed
  | started
deriving DecidableEq, Repr

/-! ### The whole machine -/

/-- No command stops the part: every refusal the spec describes is an answer, and a next state. So there is no fault,
and none is raised by any meaning. -/
inductive Fault where
deriving DecidableEq, Repr

/-- Why a command has no outcome. -/
inductive Refusal where
  /-- raised by `exec` alone, for a command that has no meaning yet; safe. No arm raises it. -/
  | notModelled (mnemonic : String)
deriving DecidableEq, Repr

/-- The state of the LC-340. -/
structure State where
  /-- Profile Table (R1) -/
  entries : Vector Entry 64
  /-- Knot Memory words (R25) -/
  memory : Memory
  /-- the free page list, head first (R25) -/
  freePages : List Nat
  /-- View Store (R50) -/
  views : Vector View 4
  /-- Edit Unit (R66) -/
  lists : Vector EditList 4
  /-- Point Unit records (R91) -/
  points : Vector PointRecord 4
  /-- Point Unit line levels (R91) -/
  lines : Vector LineLevel 4
  /-- Lookup Ports (R117) -/
  ports : Vector Port 4
  /-- Surface Engine datapath: `none` is IDLE (R136) -/
  datapath : Option Producing
  /-- Surface Engine grant pointer (R136) -/
  lastGranted : Stream
  /-- Baseline Store slots, nonvolatile (R151) -/
  slots : Vector Slot 4
  /-- request engine (R168) -/
  engine : Engine
  /-- primary I2C address (R164) -/
  primaryAddress : BitVec 7
  /-- the window last selected (R165) -/
  window : Option Window
  /-- response window (R167) -/
  response : Response
  /-- group address (R172) -/
  groupAddress : BitVec 7
  /-- group address enable (R172) -/
  groupEnabled : Bool
  /-- acknowledger setting (R172) -/
  acknowledger : Bool
  /-- alert set, in kind order and ascending subject (R176) -/
  alerts : List Alert
  /-- APPLIED mask (R177) -/
  appliedMask : StreamMask
  /-- POOL_LOW watermark (R48) -/
  watermark : Nat
  /-- the acknowledge bits driven for the data bytes of the latest write addressed to the part (R165, R166; log entry 19) -/
  acks : List Bool
  /-- the commands that are waiting, first in, first out (the model's own field) -/
  pending : List Instr
deriving DecidableEq, Repr

/-- A view after a device reset (R51). -/
def View.reset : View := { config := none, anchors := [], generation := 0 }

/-- A pending list after a device reset (R66). -/
def EditList.reset : EditList := { edits := [], target := none }

/-- The point record of stream n after a device reset (R92). -/
def PointRecord.reset (n : Stream) : PointRecord :=
  { source := n, polarity := .rising, prescale := 1, edgeCount := 0, counter := 0 }

/-- A lookup port after a device reset (R117), its lane skipping to an idle byte (R118). That it holds no message behind a
link RESET is the model's choice (log entry 31). -/
def Port.reset : Port :=
  { active := false, enabled := true, queue := [], credits := 0, stallLimit := Config.stallLimitReset,
    timer := .stopped, framing := .skipping, held := [], out := [], cut := [] }

/-- A BLANK slot (R151). -/
def Slot.blank : Slot := { state := .blank, fields := none }

/-- The response window after a device reset (R167). -/
def Response.reset : Response := { tag := 0, code := 0, result := .none_, data := [] }

/-- The state right after a device reset (R161) with the line levels and straps sampled when it ends (R92, R164), the
slots kept (R151), the start-up load about to take slot 0 with no entry allocated for it. -/
def State.afterReset (levels : LineLevels) (straps : BitVec 2) (slots : Vector Slot 4) (pending : List Instr) : State :=
  { entries := Vector.replicate 64 (Entry.freed 0)
    memory := []
    freePages := List.range 512
    views := Vector.replicate 4 View.reset
    lists := Vector.replicate 4 EditList.reset
    points := #v[PointRecord.reset 0, PointRecord.reset 1, PointRecord.reset 2, PointRecord.reset 3]
    lines := #v[levels.fb0, levels.fb1, levels.fb2, levels.fb3]
    ports := Vector.replicate 4 Port.reset
    datapath := none
    lastGranted := 3
    slots := slots
    engine := .starting 0 none
    primaryAddress := Config.primaryBase + straps.setWidth 7
    window := none
    response := Response.reset
    groupAddress := Config.groupAddressReset
    groupEnabled := false
    acknowledger := false
    alerts := []
    appliedMask := 0
    watermark := 0
    acks := []
    pending := pending }

/-- The part right after reset: a device reset of a part whose four slots are BLANK (DESIGN CHOICE, log entry 1), with
all line levels LOW and the straps at 0 (DESIGN CHOICE, log entry 2). -/
def State.reset : State :=
  State.afterReset ⟨.low, .low, .low, .low⟩ Config.resetStraps (Vector.replicate 4 Slot.blank) []

end Sys2Proof.Machine
end

