-- ==== Sys2Proof/Machine/Flags.lean ====
section
/-! DEFINITION. Flags and status: stream masks, the alert set and ALERT_N, the damaged flag, the STATUS window. -/

namespace Sys2Proof.Machine

/-! ### Stream masks (11_formats.md: bit n names stream n) -/

/-- The four streams in ascending order. -/
def allStreams : List Stream := [0, 1, 2, 3]

/-- The mask names stream n. -/
def inMask (m : StreamMask) (n : Stream) : Bool := m.getLsbD n

/-- The streams a mask names, ascending. -/
def maskStreams (m : StreamMask) : List Stream := allStreams.filter (inMask m)

/-- The mask that names one stream. -/
def streamBit (n : Stream) : StreamMask := BitVec.ofNat 4 (2 ^ n.val)

/-- The mask that names the streams of a list. -/
def maskOfStreams (l : List Stream) : StreamMask := l.foldl (fun m n => m ||| streamBit n) 0

/-- The mask with stream n added. -/
def addToMask (m : StreamMask) (n : Stream) : StreamMask := m ||| streamBit n

/-- The mask with stream n removed. -/
def removeFromMask (m : StreamMask) (n : Stream) : StreamMask := m &&& ~~~ streamBit n

/-! ### The alert set (R176, R178, R179) -/

/-- The place of a condition in kind order and, within a kind, in ascending subject (R176, R178). -/
def Alert.rank : Alert → Nat
  | .applied n => n.val
  | .damaged i => 4 + i.val
  | .poolLow => 68
  | .baselineBad n => 69 + n.val
  | .groupMissed => 73
  | .started => 74

/-- A condition put into a set kept in kind order; a condition already present is not doubled (R176). -/
def insertAlert (a : Alert) : List Alert → List Alert
  | [] => [a]
  | b :: bs => if a.rank < b.rank then a :: b :: bs else if a = b then b :: bs else b :: insertAlert a bs

/-- A raise, taken by the Management Port as one event (R176). -/
def State.raise (s : State) (a : Alert) : State := { s with alerts := insertAlert a s.alerts }

/-- ALERT_N is driven low: the alert set is not empty (R179). The same condition is the alert-pending flag (R170). A
BASELINE_BAD raised during the start-up load drives it low before STARTED (log entry 32). -/
def State.alertLow (s : State) : Bool := !s.alerts.isEmpty

/-- The contents of the STATUS window: engine state, flags, tag (R170; 11_formats.md, section 11.1). -/
def State.statusBytes (s : State) : List Byte :=
  let flags : Byte := if s.alertLow then 1 else 0
  match s.engine with
  | .starting _ _ => [0x00, flags, 0x00]
  | .idle => [0x01, flags, 0x00]
  | .busy tag _ => [0x02, flags, tag]

/-! ### One record replaced -/

/-- Entry i replaced. -/
def State.setEntry (s : State) (i : EntryIndex) (e : Entry) : State := { s with entries := s.entries.set i e }

/-- View n replaced. -/
def State.setView (s : State) (n : Stream) (v : View) : State := { s with views := s.views.set n v }

/-- Pending list n replaced. -/
def State.setList (s : State) (n : Stream) (l : EditList) : State := { s with lists := s.lists.set n l }

/-- Point record n replaced. -/
def State.setPoint (s : State) (n : Stream) (r : PointRecord) : State := { s with points := s.points.set n r }

/-- Port p replaced. -/
def State.setPort (s : State) (p : Stream) (x : Port) : State := { s with ports := s.ports.set p x }

/-- Slot n replaced. -/
def State.setSlot (s : State) (n : Stream) (x : Slot) : State := { s with slots := s.slots.set n x }

/-! ### The damaged flag (R21, R46) -/

/-- A parity fault or check mismatch in the knots of entry i is reported to the Profile Table: a STAGED, LIVE or
DRAINING entry is marked damaged and DAMAGED(i) is raised; for any other nothing happens (R21, R46). -/
def State.reportDamage (s : State) (i : EntryIndex) : State :=
  match s.entries[i].state with
  | .staged => (s.setEntry i { s.entries[i] with damaged := true }).raise (.damaged i)
  | .live => (s.setEntry i { s.entries[i] with damaged := true }).raise (.damaged i)
  | .draining => (s.setEntry i { s.entries[i] with damaged := true }).raise (.damaged i)
  | .loading => s
  | .free => s

end Sys2Proof.Machine
end

