-- ==== Sys2Proof/Machine/Ops.lean ====
section
/-! DEFINITION. The shared operations: knot words and pages, allocation and freeing of entries, references, answers. -/

namespace Sys2Proof.Machine

/-! ### Knot words (R25, R45) -/

/-- The word's parity bit agrees with its value. -/
def KnotWord.good (w : KnotWord) : Bool := w.parity == Config.parityOf w.value

/-- The word that holds a value with agreeing parity, as every write makes it (R28, R34, R45). -/
def KnotWord.ofValue (v : Knot) : KnotWord := { value := v, parity := Config.parityOf v }

/-- The word after a stored fault: a word that already holds a parity fault goes on holding one until it is written
(R45). -/
def KnotWord.upset (w : KnotWord) (u : WordUpset) : KnotWord :=
  if u.agrees && w.good then KnotWord.ofValue u.value else { value := u.value, parity := !Config.parityOf u.value }

/-! ### The Knot Memory -/

/-- What an unlisted address reads as (log entry 3). -/
def Memory.unlisted : KnotWord := KnotWord.ofValue Config.unlistedKnot

/-- The canonical form: addresses strictly rising, no entry equal to what an unlisted address reads as. -/
def Memory.wf : Memory → Bool
  | [] => true
  | (a, w) :: m => w ≠ Memory.unlisted && m.all (fun c => a < c.1) && Memory.wf m

/-- The word at an address. -/
def Memory.read : Memory → Nat → KnotWord
  | [], _ => Memory.unlisted
  | (b, w) :: m, a => if b = a then w else Memory.read m a

/-- The memory with one word written. -/
def Memory.write : Memory → Nat → KnotWord → Memory
  | [], a, w => if w = Memory.unlisted then [] else [(a, w)]
  | (b, v) :: m, a, w =>
    if a < b then (if w = Memory.unlisted then (b, v) :: m else (a, w) :: (b, v) :: m)
    else if a = b then (if w = Memory.unlisted then m else (a, w) :: m)
    else (b, v) :: Memory.write m a w

/-- The 64 cells of a page that all hold one word. -/
def Memory.pageCells (page : Nat) (w : KnotWord) : Memory :=
  if w = Memory.unlisted then [] else (List.range 64).map (fun i => (64 * page + i, w))

/-- Every word of a page written with one word (R28). -/
def Memory.fillPage (m : Memory) (page : Nat) (w : KnotWord) : Memory :=
  m.filter (fun c => c.1 < 64 * page) ++ Memory.pageCells page w ++ m.filter (fun c => 64 * page + 64 ≤ c.1)

/-! ### Grids and formats -/

/-- The format's unity value (R28, R32). -/
def Format.unity : Format → Knot
  | .uq1_11 => 2048
  | .uq2_10 => 1024
  | .uq3_9 => 512

/-- Columns x rows x channels (R1). -/
def Geometry.knotCount (g : Geometry) : Nat := g.columns * g.rows * g.channels

/-- The knots of one row: columns x channels (R31). -/
def Geometry.rowLength (g : Geometry) : Nat := g.columns * g.channels

/-- The pages of a profile: ceil(knot count / 64) (R6, R27). -/
def Geometry.pageCount (g : Geometry) : Nat := (g.knotCount + 63) / 64

/-- The knot count of an entry (R1); 0 for a FREE entry, which has none. -/
def Entry.knotCount (e : Entry) : Nat :=
  match e.profile with
  | some p => p.geometry.knotCount
  | none => 0

/-! ### Knots of an entry (R31) -/

/-- The address of knot j of entry i: page-list position j / 64, offset j mod 64 (R31); `none` past the page list. -/
def State.knotAddress (s : State) (i : EntryIndex) (j : Nat) : Option Nat :=
  (s.entries[i].pages[j / 64]?).map (fun page => 64 * page + j % 64)

/-- The word of knot j of entry i. No reader goes past the page list (log entry 25). -/
def State.readKnot (s : State) (i : EntryIndex) (j : Nat) : KnotWord :=
  match s.knotAddress i j with
  | some a => s.memory.read a
  | none => Memory.unlisted

/-- A word put at knot j of entry i; nothing past the page list. -/
def State.putKnot (s : State) (i : EntryIndex) (j : Nat) (w : KnotWord) : State :=
  match s.knotAddress i j with
  | some a => { s with memory := s.memory.write a w }
  | none => s

/-- Values written with agreeing parity to the knots of entry i from index `first` upward (R34). -/
def State.writeKnots (s : State) (i : EntryIndex) (first : Nat) : List Knot → State
  | [] => s
  | v :: vs => State.writeKnots (s.putKnot i first (KnotWord.ofValue v)) i (first + 1) vs

/-- Stored faults strike knots of entry i, one after another (R45). -/
def State.upsetKnots (s : State) (i : EntryIndex) (us : List LoadUpset) : State :=
  us.foldl (fun s u => s.putKnot i u.index ((s.readKnot i u.index).upset u.upset)) s

/-! ### Pages and entries (R6, R13, R27 to R29, R48) -/

/-- The FREE entry of lowest index (R6). -/
def State.lowestFree (s : State) : Option EntryIndex :=
  (List.finRange 64).find? (fun i => s.entries[i].state = .free)

/-- The first p pages leave the head of the free list (R27), and POOL_LOW is raised when the count goes from a value at
or above the watermark to one below it (R48). -/
def State.takePages (s : State) (p : Nat) : State :=
  let s' := { s with freePages := s.freePages.drop p }
  if s.watermark ≤ s.freePages.length ∧ s.freePages.length - p < s.watermark then s'.raise .poolLow else s'

/-- Every word of the pages written with the format's unity value and agreeing parity (R28). -/
def State.fillPages (s : State) (pages : List Nat) (f : Format) : State :=
  { s with memory := pages.foldl (fun m p => m.fillPage p (KnotWord.ofValue f.unity)) s.memory }

/-- The record an allocation writes (R6, R8, R10): the revision advanced by one (R4), LOADING. -/
def Entry.allocated (e : Entry) (profile : Profile) (pages : List Nat) : Entry :=
  { revision := e.revision + 1, state := .loading, profile := some profile, pages := pages, checkValue := none,
    damaged := false, membership := 0, pendingRefs := 0, lookupRefs := 0 }

/-- An allocation (R6): the lowest FREE entry, TABLE_FULL where there is none; the pages of the profile's grid, NO_SPACE
where too few are free; the unity fill. A failed allocation changes nothing. -/
def State.allocate (s : State) (profile : Profile) : Except Result (EntryIndex × State) :=
  match s.lowestFree with
  | none => .error .tableFull
  | some i =>
    let p := profile.geometry.pageCount
    if p ≤ s.freePages.length then
      let pages := s.freePages.take p
      .ok (i, ((s.takePages p).fillPages pages profile.format).setEntry i (s.entries[i].allocated profile pages))
    else .error .noSpace

/-- Entry i is freed (R13): its pages join the tail of the free list in page-list order (R29); the revision is kept. -/
def State.freeEntry (s : State) (i : EntryIndex) : State :=
  { s with freePages := s.freePages ++ s.entries[i].pages }.setEntry i (Entry.freed s.entries[i].revision)

/-! ### References (R14 to R18) -/

/-- One pending reference more on entry i (R14). -/
def State.takePending (s : State) (i : EntryIndex) : State :=
  s.setEntry i { s.entries[i] with pendingRefs := s.entries[i].pendingRefs + 1 }

/-- One pending reference less on entry i (R15). -/
def State.releasePending (s : State) (i : EntryIndex) : State :=
  s.setEntry i { s.entries[i] with pendingRefs := s.entries[i].pendingRefs - 1 }

/-- One lookup reference more on entry i (R17). -/
def State.takeLookupRef (s : State) (i : EntryIndex) : State :=
  s.setEntry i { s.entries[i] with lookupRefs := s.entries[i].lookupRefs + 1 }

/-- One lookup reference less on entry i; a DRAINING entry brought to 0 is freed in the same event (R18). -/
def State.releaseLookupRef (s : State) (i : EntryIndex) : State :=
  if s.entries[i].state = .draining ∧ s.entries[i].lookupRefs - 1 = 0 then s.freeEntry i
  else s.setEntry i { s.entries[i] with lookupRefs := s.entries[i].lookupRefs - 1 }

/-! ### Answers and the request engine (R165 to R169) -/

/-- A response replaces the current one (R167). -/
def State.respond (s : State) (tag code : Byte) (result : Result) (data : List Byte) : State :=
  { s with response := { tag := tag, code := code, result := result, data := data } }

/-- A write selects a window (R165), the part driving these acknowledge bits for the write's data bytes. -/
def State.selectWindow (s : State) (w : Window) (acks : List Bool) : State :=
  { s with window := some w, acks := acks }

/-- A long request past its immediate checks: the engine becomes BUSY with its tag (R168), and the window holds NONE with
its tag and code (R167). -/
def State.startJob (s : State) (tag code : Byte) (job : Job) : State :=
  { s.respond tag code .none_ [] with engine := .busy tag job }

/-- A long request's end: its final response is placed (R167) and the engine becomes IDLE (R168). -/
def State.endJob (s : State) (tag code : Byte) (result : Result) (data : List Byte) : State :=
  { s.respond tag code result data with engine := .idle }

/-- A request message of `len` bytes written to the primary address. An IDLE engine takes it; otherwise its first byte
is NACKed with every later one and nothing is taken, the selector having selected the REQUEST window (R165, R169). -/
def State.onRequest (s : State) (len : Nat) (effect : State → State) : State :=
  match s.engine with
  | .idle => effect (s.selectWindow .request (true :: List.replicate len true))
  | .starting _ _ => s.selectWindow .request (true :: List.replicate len false)
  | .busy _ _ => s.selectWindow .request (true :: List.replicate len false)

end Sys2Proof.Machine
end

