-- ==== Sys2Proof/Machine/Operands.lean ====
section
/-! DEFINITION. Request operands as the owning rules read them, and the byte codes of answers (11_formats.md). -/

namespace Sys2Proof.Machine

/-! ### Operands read -/

/-- A stream, port or slot number, 0-3. -/
def streamOf (b : Byte) : Option Stream := if h : b.toNat < 4 then some ⟨b.toNat, h⟩ else none

/-- A stream mask byte; bits 4-7 must be clear (R181). -/
def maskOf (b : Byte) : Option StreamMask := if b.toNat < 16 then some (BitVec.ofNat 4 b.toNat) else none

/-- A flag byte: 0x00 no, 0x01 yes (section 11.1); any other value is not assigned (R181). -/
def flagOf (b : Byte) : Option Bool := if b = 0 then some false else if b = 1 then some true else none

/-- A format byte (section 11.1). -/
def formatOf (b : Byte) : Option Format :=
  if b = 0 then some .uq1_11 else if b = 1 then some .uq2_10 else if b = 2 then some .uq3_9 else none

/-- A polarity byte (section 11.1). -/
def polarityOf (b : Byte) : Option Polarity :=
  if b = 0 then some .rising else if b = 1 then some .falling else none

/-- Columns 4-16, rows 3-12, channels 1 or 4 (R7, R57, R151). -/
def geometryOf (columns rows channels : Byte) : Option Geometry :=
  if 4 ≤ columns.toNat ∧ columns.toNat ≤ 16 ∧ 3 ≤ rows.toNat ∧ rows.toNat ≤ 12 ∧ (channels = 1 ∨ channels = 4) then
    some { columns := columns.toNat, rows := rows.toNat, channels := channels.toNat }
  else none

/-- The handle check of R5: RANGE for an index above 63, STALE for a FREE entry or another revision. -/
def State.checkHandle (s : State) (h : RawHandle) : Except Result EntryIndex :=
  if hlt : h.index.toNat < 64 then
    let i : EntryIndex := ⟨h.index.toNat, hlt⟩
    if s.entries[i].state = .free ∨ s.entries[i].revision ≠ h.revision then .error .stale else .ok i
  else .error .range

/-! ### Values as bytes -/

/-- A count or number as one byte. -/
def byteOf (n : Nat) : Byte := BitVec.ofNat 8 n

/-- A count or number as two bytes. -/
def wordOfNat (n : Nat) : List Byte := wordBytes (BitVec.ofNat 16 n)

/-- A flag in data (section 11.1). -/
def flagByte (b : Bool) : Byte := if b then 1 else 0

/-- A mask in data. -/
def maskByte (m : StreamMask) : Byte := BitVec.ofNat 8 m.toNat

/-- A stream, port or slot number in data. -/
def streamByte (n : Stream) : Byte := BitVec.ofNat 8 n.val

/-- A handle in data: index, revision. -/
def Handle.bytes (h : Handle) : List Byte := [byteOf h.index.val, h.revision]

/-- Section 11.1, format. -/
def Format.byte : Format → Byte
  | .uq1_11 => 0
  | .uq2_10 => 1
  | .uq3_9 => 2

/-- Columns, rows, channels in data. -/
def Geometry.bytes (g : Geometry) : List Byte := [byteOf g.columns, byteOf g.rows, byteOf g.channels]

/-- Section 11.1, polarity. -/
def Polarity.byte : Polarity → Byte
  | .rising => 0
  | .falling => 1

/-- Section 11.1, line level. -/
def levelByte : LineLevel → Byte
  | .low => 0
  | .high => 1

/-- Section 11.1, entry state. -/
def EntryState.byte : EntryState → Byte
  | .free => 0
  | .loading => 1
  | .staged => 2
  | .live => 3
  | .draining => 4

/-- Section 11.1, origin. -/
def Origin.byte : Origin → Byte
  | .host => 0x00
  | .baseline n => 0x10 + streamByte n

/-- Section 11.1, alert kind, then the subject byte. -/
def Alert.bytes : Alert → List Byte
  | .applied n => [0x01, streamByte n]
  | .damaged i => [0x02, byteOf i.val]
  | .poolLow => [0x03, 0x00]
  | .baselineBad n => [0x04, streamByte n]
  | .groupMissed => [0x05, 0x00]
  | .started => [0x06, 0x00]

/-- Section 11.2, result codes. -/
def Result.byte : Result → Byte
  | .ok => 0x00
  | .none_ => 0x01
  | .format => 0x02
  | .unknownRequest => 0x03
  | .range => 0x04
  | .stale => 0x05
  | .state => 0x06
  | .tableFull => 0x07
  | .noSpace => 0x08
  | .checkMismatch => 0x09
  | .parity => 0x0A
  | .inUse => 0x0B
  | .live => 0x0C
  | .damaged => 0x0D
  | .unconfigured => 0x0E
  | .geometry => 0x0F
  | .viewBusy => 0x10
  | .armed => 0x11
  | .listFull => 0x12
  | .duplicate => 0x13
  | .notMember => 0x14
  | .layout => 0x15
  | .nothingPending => 0x16
  | .tooLate => 0x17
  | .slotUsed => 0x18
  | .slotEmpty => 0x19
  | .slotSpoiled => 0x1A
  | .programFailed => 0x1B
  | .aborted => 0x1C
  | .groupRefused => 0x1D

/-- A response message: tag, code echo, result, data length, data (section 11.1). -/
def Response.bytes (r : Response) : List Byte :=
  [r.tag, r.code, r.result.byte, byteOf r.data.length] ++ r.data

/-- The contents of the window that a read transaction returns (R165): RESPONSE when it was selected last, STATUS when
STATUS, REQUEST or ABORT was, or nothing has been. -/
def State.readWindow (s : State) : List Byte :=
  match s.window with
  | some .response => s.response.bytes
  | some .status => s.statusBytes
  | some .request => s.statusBytes
  | some .abort => s.statusBytes
  | none => s.statusBytes

/-- The first n bytes of a read transaction; beyond the contents 0x00 (R165). -/
def State.readBytes (s : State) (n : Nat) : List Byte :=
  s.readWindow.take n ++ List.replicate (n - s.readWindow.length) 0

/-- The part drives an acknowledge bit low for a bus address byte: its primary address in every engine state (R164); the
group address for a write, when enabled and acknowledger (R172, R173). -/
def State.acksAddress (s : State) (address : BitVec 7) (read : Bool) : Bool :=
  address = s.primaryAddress ||
    (s.groupEnabled && s.acknowledger && address = s.groupAddress && !read)

/-! ### Request writes as bytes (R166, R169) -/

/-- The acknowledge bits an IDLE part drives for the bytes of a request write, selector first (R166). -/
def requestAcks (message : List Byte) : List Bool :=
  true :: (List.range message.length).map (ackRequestByte message)

/-- A write of selector 0x01 and at least one byte to the primary address. An IDLE engine takes the bytes (R166); any
other NACKs them all and takes nothing (R169). -/
def State.onMessage (s : State) (message : List Byte) (effect : State → State) : State :=
  match s.engine with
  | .idle => effect (s.selectWindow .request (requestAcks message))
  | .starting _ _ => s.selectWindow .request (true :: List.replicate message.length false)
  | .busy _ _ => s.selectWindow .request (true :: List.replicate message.length false)

end Sys2Proof.Machine
end

