-- ==== Sys2Proof/Machine/Check.lean ====
section
/-! DEFINITION. Readers of knots: parity-checked reading, the check unit's CRC-16, and the compression of slots. -/

namespace Sys2Proof.Machine

/-! ### Reading (R36, R38, R45) -/

/-- The values at the given indices, read in order; `.error` with the index of the first word that holds a parity
fault, where the reading stops. -/
def readWords (word : Nat → KnotWord) : List Nat → Except Nat (List Knot)
  | [] => .ok []
  | j :: js =>
    if (word j).good then
      match readWords word js with
      | .ok ks => .ok ((word j).value :: ks)
      | .error f => .error f
    else .error j

/-- The knots of entry i from `first`, `count` of them. -/
def State.readRun (s : State) (i : EntryIndex) (first count : Nat) : Except Nat (List Knot) :=
  readWords (s.readKnot i) (List.range' first count)

/-- Every knot of entry i, index 0 to knot count - 1 (R38). -/
def State.readAll (s : State) (i : EntryIndex) : Except Nat (List Knot) :=
  s.readRun i 0 s.entries[i].knotCount

/-! ### The CRC-16 (R37) -/

/-- One bit into the CRC-16 register (R37). -/
def crc16Bit (reg : Word) (bit : Bool) : Word :=
  if reg.msb != bit then (reg <<< 1) ^^^ 0x1021#16 else reg <<< 1

/-- One byte into the CRC-16 register, most significant bit first (R37). -/
def crc16Byte (reg : Word) (byte : Byte) : Word :=
  [7, 6, 5, 4, 3, 2, 1, 0].foldl (fun r i => crc16Bit r (byte.getLsbD i)) reg

/-- The CRC-16 of a sequence of bytes: initial value 0xFFFF, no final inversion (R37). -/
def crc16Bytes (bytes : List Byte) : Word := bytes.foldl crc16Byte 0xFFFF

/-- The CRC-16 of a sequence of knots, each entering as its two bytes (R37). -/
def crc16 (ks : List Knot) : Word := crc16Bytes (ks.flatMap knotBytes)

/-- The outcome of a check of an entry's knots (R38). -/
inductive CheckOutcome where
  | fault (index : Nat)
  | crc (value : Word)
deriving DecidableEq, Repr

/-- The check unit over entry i (R38). -/
def State.checkEntry (s : State) (i : EntryIndex) : CheckOutcome :=
  match s.readAll i with
  | .error j => .fault j
  | .ok ks => .crc (crc16 ks)

/-! ### Compression (R153) -/

/-- The knots of channel c: knot i belongs to channel i mod channels (R151). -/
def channelKnots (channels c : Nat) (ks : List Knot) : List Knot :=
  (ks.zipIdx.filter (fun p => p.2 % channels = c)).map (fun p => p.1)

/-- The smallest knot of a channel (R153). -/
def smallestKnot (ks : List Knot) : Knot := ks.foldl (fun m k => if k.toNat < m.toNat then k else m) 4095

/-- The largest knot of a channel. -/
def largestKnot (ks : List Knot) : Knot := ks.foldl (fun m k => if m.toNat < k.toNat then k else m) 0

/-- The span of channel c: its largest knot less its smallest (R153). -/
def channelSpan (channels c : Nat) (ks : List Knot) : Nat :=
  (largestKnot (channelKnots channels c ks)).toNat - (smallestKnot (channelKnots channels c ks)).toNat

/-- One base per channel (R153). -/
def basesOf (channels : Nat) (ks : List Knot) : List Knot :=
  (List.range channels).map (fun c => smallestKnot (channelKnots channels c ks))

/-- The first channel whose span is above 255, with the span (R155). -/
def excessSpan (channels : Nat) (ks : List Knot) : Option (Nat × Nat) :=
  ((List.range channels).find? (fun c => 255 < channelSpan channels c ks)).map (fun c => (c, channelSpan channels c ks))

/-- One delta per knot: the knot less its channel's base, modulo 256 (R153, R156). -/
def deltasOf (channels : Nat) (bases ks : List Knot) : List Byte :=
  ks.zipIdx.map (fun p => BitVec.ofNat 8 (p.1 - bases.getD (p.2 % channels) 0).toNat)

/-- Knot i is base (i mod channels) plus delta i, modulo 4096 (R153). -/
def decompress (channels count : Nat) (bases : List Knot) (deltas : List Byte) : List Knot :=
  (List.range count).map (fun j => bases.getD (j % channels) 0 + BitVec.ofNat 12 (deltas.getD j 0).toNat)

/-! ### Slots as every reader takes them (R152, R160) -/

/-- Why a slot is read as SPOILED (R152, R160). -/
inductive SpoiledFrom where
  | spoiled
  | programming
  | badGrid
deriving DecidableEq, Repr

/-- A slot's state as read (R152): a stored PROGRAMMING is SPOILED, and so is a PROGRAMMED slot whose stored geometry or
format is out of range. -/
inductive SlotReading where
  | blank
  | programmed (fields : SlotFields) (geometry : Geometry) (format : Format)
  | spoiled (why : SpoiledFrom)
deriving DecidableEq, Repr

/-- The reading of a slot (R152). -/
def Slot.reading (x : Slot) : SlotReading :=
  match x.state with
  | .blank => .blank
  | .programming => .spoiled .programming
  | .spoiled => .spoiled .spoiled
  | .programmed =>
    match x.fields with
    | none => .spoiled .badGrid
    | some f =>
      match geometryOf f.columns f.rows f.channels, formatOf f.format with
      | some g, some fmt => .programmed f g fmt
      | _, _ => .spoiled .badGrid

/-- The knots a slot's fields decompress to, for a grid (R153). -/
def SlotFields.knots (f : SlotFields) (g : Geometry) : List Knot :=
  decompress g.channels g.knotCount f.bases f.deltas

end Sys2Proof.Machine
end

