-- ==== Sys2Proof/Machine/Profiles.lean ====
section
/-! DEFINITION. The Profile Table's requests: CREATE, DELETE, QUERY_PROFILE, QUERY_STORE (chapter 1). -/

namespace Sys2Proof.Machine

/-- CREATE (R7, R8): RANGE for the grid and then the format, TABLE_FULL, NO_SPACE; else a LOADING entry of HOST, every
knot unity, and the answer gives handle, knot count and page count. -/
def reqCreate (tag columns rows channels format : Byte) (label : Word) (s : State) : State :=
  match geometryOf columns rows channels, formatOf format with
  | some g, some f =>
    match s.allocate { origin := .host, geometry := g, format := f, label := label } with
    | .ok (i, s') =>
      s'.respond tag 0x10 .ok
        ([byteOf i.val, s'.entries[i].revision] ++ wordOfNat g.knotCount ++ [byteOf g.pageCount])
    | .error r => s.respond tag 0x10 r []
  | _, _ => s.respond tag 0x10 .range []

/-- CREATE (R8). -/
def execCreate (tag columns rows channels format : Byte) (label : Word) (s : State) :
    Host.Outcome State Fault Refusal :=
  .next (s.onRequest 9 (reqCreate tag columns rows channels format label))

/-- DELETE (R11, R12): the handle check, then the table of R11; an accepted DELETE answers the handle and the state the
entry holds, FREE or DRAINING. -/
def reqDelete (tag : Byte) (handle : RawHandle) (s : State) : State :=
  match s.checkHandle handle with
  | .error r => s.respond tag 0x11 r []
  | .ok i =>
    match s.entries[i].state with
    | .loading => (s.freeEntry i).respond tag 0x11 .ok (handle.bytes ++ [EntryState.byte .free])
    | .staged =>
      if 0 < s.entries[i].pendingRefs then s.respond tag 0x11 .inUse []
      else if s.entries[i].lookupRefs = 0 then
        (s.freeEntry i).respond tag 0x11 .ok (handle.bytes ++ [EntryState.byte .free])
      else
        (s.setEntry i { s.entries[i] with state := .draining }).respond tag 0x11 .ok
          (handle.bytes ++ [EntryState.byte .draining])
    | .live => s.respond tag 0x11 .live []
    | .draining => s.respond tag 0x11 .state []
    | .free => s.respond tag 0x11 .stale []

/-- DELETE (R11). -/
def execDelete (tag : Byte) (handle : RawHandle) (s : State) : Host.Outcome State Fault Refusal :=
  .next (s.onRequest 5 (reqDelete tag handle))

/-- The data of QUERY_PROFILE (R23; section 11.1). An absent check value is sent as 0x0000 (the model's choice, log
entry 34). -/
def State.profileBytes (s : State) (i : EntryIndex) : List Byte :=
  let e := s.entries[i]
  let described := match e.profile with
    | some p => [p.origin.byte] ++ p.geometry.bytes ++ [p.format.byte]
    | none => [0, 0, 0, 0, 0]
  let label := match e.profile with
    | some p => p.label
    | none => 0
  [byteOf i.val, e.revision, e.state.byte] ++ described ++ wordOfNat e.knotCount ++ [byteOf e.pages.length]
    ++ e.pages.flatMap wordOfNat ++ wordBytes label ++ [flagByte e.checkValue.isSome]
    ++ wordBytes (e.checkValue.getD 0)
    ++ [flagByte e.damaged, maskByte e.membership, byteOf e.pendingRefs, byteOf e.lookupRefs]

/-- QUERY_PROFILE (R23): a STALE refusal carries the entry's current revision and state. -/
def reqQueryProfile (tag : Byte) (handle : RawHandle) (s : State) : State :=
  if hlt : handle.index.toNat < 64 then
    let i : EntryIndex := ⟨handle.index.toNat, hlt⟩
    if s.entries[i].state = .free ∨ s.entries[i].revision ≠ handle.revision then
      s.respond tag 0x12 .stale [s.entries[i].revision, s.entries[i].state.byte]
    else s.respond tag 0x12 .ok (s.profileBytes i)
  else s.respond tag 0x12 .range []

/-- QUERY_PROFILE (R23). -/
def execQueryProfile (tag : Byte) (handle : RawHandle) (s : State) : Host.Outcome State Fault Refusal :=
  .next (s.onRequest 5 (reqQueryProfile tag handle))

/-- The number of entries in a state (R24). -/
def State.countIn (s : State) (st : EntryState) : Nat := s.entries.toList.countP (fun e => e.state = st)

/-- The pages held in the page lists of DRAINING entries (R24). -/
def State.drainingPages (s : State) : Nat :=
  ((s.entries.toList.filter (fun e => e.state = .draining)).map (fun e => e.pages.length)).sum

/-- One byte of the entry map: bit i of byte k for entry 8k + i (section 11.1, R24). -/
def State.mapByte (s : State) (k : Nat) : Byte :=
  byteOf (((List.range 8).map (fun i =>
    match s.entries[8 * k + i]? with
    | some e => if e.state = .free then 0 else 2 ^ i
    | none => 0)).sum)

/-- The data of QUERY_STORE (R24; section 11.1). -/
def State.storeBytes (s : State) : List Byte :=
  [byteOf (s.countIn .free)] ++ wordOfNat s.freePages.length ++ wordOfNat s.watermark
    ++ [byteOf (s.countIn .loading), byteOf (s.countIn .staged), byteOf (s.countIn .live), byteOf (s.countIn .draining)]
    ++ wordOfNat s.drainingPages ++ (List.range 8).map s.mapByte

/-- QUERY_STORE (R24). -/
def reqQueryStore (tag : Byte) (s : State) : State := s.respond tag 0x13 .ok s.storeBytes

/-- QUERY_STORE (R24). -/
def execQueryStore (tag : Byte) (s : State) : Host.Outcome State Fault Refusal :=
  .next (s.onRequest 3 (reqQueryStore tag))

end Sys2Proof.Machine
end

