-- ==== Sys2Proof/Machine/Knots.lean ====
section
/-! DEFINITION. Knots: WRITE_KNOTS, READ_KNOTS, FINISH, VERIFY and their completions, and the stored fault (chapter 2). -/

namespace Sys2Proof.Machine

/-- WRITE_KNOTS (R33, R34): a parameter length that disagrees with the count is FORMAT (R180); a knot above 4095 is
RANGE before every owning check (R181); then handle, count, LOADING, range. -/
def reqWriteKnots (tag : Byte) (handle : RawHandle) (first : Word) (count : Byte) (knots : List Word) (s : State) :
    State :=
  if knots.length ≠ count.toNat ∨ 29 < knots.length then s.respond tag 0x14 .format []
  else if knots.any (fun k => 4096 ≤ k.toNat) then s.respond tag 0x14 .range []
  else match s.checkHandle handle with
    | .error r => s.respond tag 0x14 r []
    | .ok i =>
      if count.toNat < 1 ∨ 24 < count.toNat then s.respond tag 0x14 .range []
      else if s.entries[i].state ≠ .loading then s.respond tag 0x14 .state []
      else if s.entries[i].knotCount < first.toNat + count.toNat then s.respond tag 0x14 .range []
      else (s.writeKnots i first.toNat (knots.map (fun k => BitVec.ofNat 12 k.toNat))).respond tag 0x14 .ok
        (wordBytes first ++ [count])

/-- WRITE_KNOTS (R34), its bytes acknowledged as R166 gives, however many knots it carries. -/
def execWriteKnots (tag : Byte) (handle : RawHandle) (first : Word) (count : Byte) (knots : List Word) (s : State) :
    Host.Outcome State Fault Refusal :=
  .next (s.onMessage (encodeRequest tag (.writeKnots handle first count knots))
    (reqWriteKnots tag handle first count knots))

/-- READ_KNOTS (R35, R36): a parity fault stops the read, is reported, and gives PARITY with the knot's index. -/
def reqReadKnots (tag : Byte) (handle : RawHandle) (first : Word) (count : Byte) (s : State) : State :=
  match s.checkHandle handle with
  | .error r => s.respond tag 0x15 r []
  | .ok i =>
    if count.toNat < 1 ∨ 24 < count.toNat then s.respond tag 0x15 .range []
    else if s.entries[i].knotCount < first.toNat + count.toNat then s.respond tag 0x15 .range []
    else match s.readRun i first.toNat count.toNat with
      | .ok ks => s.respond tag 0x15 .ok (wordBytes first ++ [count] ++ ks.flatMap knotBytes)
      | .error j => (s.reportDamage i).respond tag 0x15 .parity (wordOfNat j)

/-- READ_KNOTS (R36). -/
def execReadKnots (tag : Byte) (handle : RawHandle) (first : Word) (count : Byte) (s : State) :
    Host.Outcome State Fault Refusal :=
  .next (s.onRequest 8 (reqReadKnots tag handle first count))

/-- FINISH (R39): the handle, then LOADING; past them the engine is BUSY and the check begins. -/
def reqFinish (tag : Byte) (handle : RawHandle) (crc : Word) (s : State) : State :=
  match s.checkHandle handle with
  | .error r => s.respond tag 0x16 r []
  | .ok i =>
    if s.entries[i].state ≠ .loading then s.respond tag 0x16 .state []
    else s.startJob tag 0x16 (.finish i crc)

/-- FINISH (R39). -/
def execFinish (tag : Byte) (handle : RawHandle) (crc : Word) (s : State) : Host.Outcome State Fault Refusal :=
  .next (s.onRequest 7 (reqFinish tag handle crc))

/-- The end of a FINISH's check (R40, R9): OK and STAGED with the check value recorded, CHECK_MISMATCH, or PARITY. -/
def endFinish (tag : Byte) (i : EntryIndex) (crc : Word) (s : State) : State :=
  match s.checkEntry i with
  | .fault j => s.endJob tag 0x16 .parity (wordOfNat j)
  | .crc c =>
    if c = crc then
      (s.setEntry i { s.entries[i] with state := .staged, checkValue := some c }).endJob tag 0x16 .ok (wordBytes c)
    else s.endJob tag 0x16 .checkMismatch (wordBytes c)

/-- FINISH_COMPLETE (R40); nothing where no FINISH runs (log entry 7). -/
def execFinishComplete (s : State) : Host.Outcome State Fault Refusal :=
  match s.engine with
  | .busy tag (.finish i crc) => .next (endFinish tag i crc s)
  | _ => .next s

/-- VERIFY (R42): the handle, then STAGED or LIVE; past them the engine is BUSY and the check begins. -/
def reqVerify (tag : Byte) (handle : RawHandle) (s : State) : State :=
  match s.checkHandle handle with
  | .error r => s.respond tag 0x17 r []
  | .ok i =>
    if s.entries[i].state = .staged ∨ s.entries[i].state = .live then s.startJob tag 0x17 (.verify i)
    else s.respond tag 0x17 .state []

/-- VERIFY (R42). -/
def execVerify (tag : Byte) (handle : RawHandle) (s : State) : Host.Outcome State Fault Refusal :=
  .next (s.onRequest 5 (reqVerify tag handle))

/-- The end of a VERIFY's check (R43): OK, or CHECK_MISMATCH or PARITY, which mark the entry damaged. -/
def endVerify (tag : Byte) (i : EntryIndex) (s : State) : State :=
  match s.checkEntry i with
  | .fault j => (s.reportDamage i).endJob tag 0x17 .parity (wordOfNat j)
  | .crc c =>
    if s.entries[i].checkValue = some c then s.endJob tag 0x17 .ok (wordBytes c)
    else (s.reportDamage i).endJob tag 0x17 .checkMismatch
      (wordBytes c ++ wordBytes (s.entries[i].checkValue.getD 0))

/-- VERIFY_COMPLETE (R43); nothing where no VERIFY runs (log entry 7). -/
def execVerifyComplete (s : State) : Host.Outcome State Fault Refusal :=
  match s.engine with
  | .busy tag (.verify i) => .next (endVerify tag i s)
  | _ => .next s

/-- PARITY_FAULT (R45): a stored word loses its parity agreement or its value; only the word changes. -/
def execParityFault (page : Fin 512) (offset : Fin 64) (upset : WordUpset) (s : State) :
    Host.Outcome State Fault Refusal :=
  .next { s with memory := s.memory.write (64 * page.val + offset.val)
                  ((s.memory.read (64 * page.val + offset.val)).upset upset) }

end Sys2Proof.Machine
end

