-- ==== Sys2Proof/Machine/Views.lean ====
section
/-! DEFINITION. Views: plateau edges, layout validity, CONFIGURE_VIEW, QUERY_VIEW (chapter 3). -/

namespace Sys2Proof.Machine

/-- The lower plateau edge: max(K - P, 0) (R53). -/
def Anchor.lower (a : Anchor) : Nat := a.key.toNat - a.plateau.toNat

/-- The upper plateau edge: min(K + P, 65535) (R53). -/
def Anchor.upper (a : Anchor) : Nat := min (a.key.toNat + a.plateau.toNat) 65535

/-- An anchor list placed after every anchor of lower or equal key and before every anchor of higher key (R68). -/
def insertAnchor (a : Anchor) : List Anchor → List Anchor
  | [] => [a]
  | b :: bs => if b.key.toNat ≤ a.key.toNat then b :: insertAnchor a bs else a :: b :: bs

/-- The anchor list without the anchor that names an entry (R68). -/
def removeAnchor (i : EntryIndex) (as : List Anchor) : List Anchor := as.filter (fun a => a.handle.index ≠ i)

/-- The anchor that names an entry. -/
def findAnchor (i : EntryIndex) (as : List Anchor) : Option Anchor := as.find? (fun a => a.handle.index = i)

/-- The first consecutive pair that breaks condition 3 of R54: the upper edge of the first is not below the lower edge of
the second. -/
def crowdedPair : List Anchor → Option (Anchor × Anchor)
  | a :: b :: rest => if a.upper < b.lower then crowdedPair (b :: rest) else some (a, b)
  | _ => none

/-- No two anchors name the same entry (condition 4 of R54). -/
def distinctEntries : List Anchor → Bool
  | [] => true
  | a :: as => as.all (fun b => b.handle.index ≠ a.handle.index) && distinctEntries as

/-- An entry has a view's geometry and format. -/
def Entry.fits (e : Entry) (c : ViewConfig) : Bool :=
  match e.profile with
  | some p => p.geometry = c.geometry && p.format = c.format
  | none => false

/-- The condition of R54 that a layout breaks, as a refused COMMIT reports it (R77). -/
inductive LayoutFault where
  | tooMany (count : Nat)
  | crowded (a b : Anchor)
  | repeated
  | mismatched
deriving DecidableEq, Repr

/-- The first condition of R54 that an anchor list breaks; condition 2 breaks only with condition 3, and is reported as
condition 3 (R54, R77). -/
def State.layoutFault (s : State) (c : ViewConfig) (as : List Anchor) : Option LayoutFault :=
  if 8 < as.length then some (.tooMany as.length)
  else match crowdedPair as with
    | some (a, b) => some (.crowded a b)
    | none =>
      if !distinctEntries as then some .repeated
      else if as.all (fun a => s.entries[a.handle.index].fits c) then none else some .mismatched

/-- CONFIGURE_VIEW (R57, R58): RANGE for stream, grid and format; VIEW_BUSY, with the anchor count, the edit count and
the armed flag, while the view holds anchors or the list holds edits or is armed; else the configuration is written. -/
def reqConfigureView (tag stream columns rows channels format : Byte) (s : State) : State :=
  match streamOf stream with
  | none => s.respond tag 0x20 .range []
  | some n =>
    match geometryOf columns rows channels, formatOf format with
    | some g, some f =>
      if s.views[n].anchors = [] ∧ s.lists[n].edits = [] ∧ s.lists[n].target = none then
        (s.setView n { s.views[n] with config := some { geometry := g, format := f } }).respond tag 0x20 .ok
          ([stream] ++ g.bytes ++ [f.byte] ++ wordBytes s.views[n].generation)
      else s.respond tag 0x20 .viewBusy
        [byteOf s.views[n].anchors.length, byteOf s.lists[n].edits.length, flagByte s.lists[n].target.isSome]
    | _, _ => s.respond tag 0x20 .range []

/-- CONFIGURE_VIEW (R57). -/
def execConfigureView (tag stream columns rows channels format : Byte) (s : State) :
    Host.Outcome State Fault Refusal :=
  .next (s.onRequest 8 (reqConfigureView tag stream columns rows channels format))

/-- The damaged mask of QUERY_VIEW: bit i - 1 for position i (R60; section 11.1). -/
def State.damagedMask (s : State) (as : List Anchor) : Byte :=
  byteOf ((as.zipIdx.map (fun p => if s.entries[p.1.handle.index].damaged then 2 ^ p.2 else 0)).sum)

/-- The data of QUERY_VIEW (R60; section 11.1). -/
def State.viewBytes (s : State) (n : Stream) : List Byte :=
  let v := s.views[n]
  let described := match v.config with
    | some c => [1] ++ c.geometry.bytes ++ [c.format.byte]
    | none => [0, 0, 0, 0, 0]
  [streamByte n] ++ described ++ wordBytes v.generation ++ [byteOf v.anchors.length]
    ++ v.anchors.flatMap (fun a => a.handle.bytes ++ wordBytes a.key ++ wordBytes a.plateau)
    ++ [s.damagedMask v.anchors]

/-- QUERY_VIEW (R60). -/
def reqQueryView (tag stream : Byte) (s : State) : State :=
  match streamOf stream with
  | none => s.respond tag 0x21 .range []
  | some n => s.respond tag 0x21 .ok (s.viewBytes n)

/-- QUERY_VIEW (R60). -/
def execQueryView (tag stream : Byte) (s : State) : Host.Outcome State Fault Refusal :=
  .next (s.onRequest 4 (reqQueryView tag stream))

end Sys2Proof.Machine
end

