-- ==== Sys2Proof/Machine/Edits.lean ====
section
/-! DEFINITION. Edits and commits: the projected view, ATTACH, DETACH, MOVE, COMMIT, the apply, WITHDRAW, DISCARD,
QUERY_EDITS (chapter 4). -/

namespace Sys2Proof.Machine

/-- The handle an edit names (R67). -/
def Edit.handle : Edit → Handle
  | .attach h _ _ => h
  | .detach h => h
  | .move h _ _ => h

/-- What one edit does to an anchor list (R68, R81). -/
def applyEdit (as : List Anchor) : Edit → List Anchor
  | .attach h k p => insertAnchor { handle := h, key := k, plateau := p } as
  | .detach h => removeAnchor h.index as
  | .move h k p =>
    match findAnchor h.index as with
    | some a => insertAnchor { a with key := k, plateau := p } (removeAnchor h.index as)
    | none => as

/-- The edits of a list applied one after another, in list order (R68, R81). -/
def applyEdits (as : List Anchor) (es : List Edit) : List Anchor := es.foldl applyEdit as

/-- The projected view of a stream (R68). -/
def State.projected (s : State) (n : Stream) : List Anchor := applyEdits s.views[n].anchors s.lists[n].edits

/-- The checks that ATTACH, DETACH and MOVE share, in the order of R69: RANGE, UNCONFIGURED, ARMED with the target,
LIST_FULL, the handle. -/
def State.checkEdit (s : State) (stream : Byte) (handle : RawHandle) :
    Except (Result × List Byte) (Stream × ViewConfig × EntryIndex) :=
  match streamOf stream with
  | none => .error (.range, [])
  | some n =>
    match s.views[n].config with
    | none => .error (.unconfigured, [])
    | some c =>
      match s.lists[n].target with
      | some t => .error (.armed, wordBytes t)
      | none =>
        if 8 ≤ s.lists[n].edits.length then .error (.listFull, [])
        else match s.checkHandle handle with
          | .error r => .error (r, [])
          | .ok i => .ok (n, c, i)

/-- An accepted edit joins the tail of its stream's list, and its entry takes a pending reference (R72, R14). The answer
gives the stream, the edit's position and the projected anchor count. -/
def State.acceptEdit (s : State) (tag code : Byte) (n : Stream) (e : Edit) : State :=
  let s' := (s.setList n { s.lists[n] with edits := s.lists[n].edits ++ [e] }).takePending e.handle.index
  s'.respond tag code .ok [streamByte n, byteOf s'.lists[n].edits.length, byteOf (s'.projected n).length]

/-- ATTACH (R69, R70, R72). -/
def reqAttach (tag stream : Byte) (handle : RawHandle) (key plateau : Word) (s : State) : State :=
  match s.checkEdit stream handle with
  | .error (r, d) => s.respond tag 0x22 r d
  | .ok (n, c, i) =>
    if s.entries[i].state ≠ .staged ∧ s.entries[i].state ≠ .live then s.respond tag 0x22 .state []
    else if s.entries[i].damaged then s.respond tag 0x22 .damaged []
    else if !s.entries[i].fits c then s.respond tag 0x22 .geometry []
    else if (findAnchor i (s.projected n)).isSome then s.respond tag 0x22 .duplicate []
    else s.acceptEdit tag 0x22 n (.attach { index := i, revision := handle.revision } key plateau)

/-- ATTACH (R70). -/
def execAttach (tag stream : Byte) (handle : RawHandle) (key plateau : Word) (s : State) :
    Host.Outcome State Fault Refusal :=
  .next (s.onRequest 10 (reqAttach tag stream handle key plateau))

/-- DETACH (R69, R71, R72). -/
def reqDetach (tag stream : Byte) (handle : RawHandle) (s : State) : State :=
  match s.checkEdit stream handle with
  | .error (r, d) => s.respond tag 0x23 r d
  | .ok (n, _, i) =>
    if (findAnchor i (s.projected n)).isSome then
      s.acceptEdit tag 0x23 n (.detach { index := i, revision := handle.revision })
    else s.respond tag 0x23 .notMember []

/-- DETACH (R71). -/
def execDetach (tag stream : Byte) (handle : RawHandle) (s : State) : Host.Outcome State Fault Refusal :=
  .next (s.onRequest 6 (reqDetach tag stream handle))

/-- MOVE (R69, R71, R72). -/
def reqMove (tag stream : Byte) (handle : RawHandle) (key plateau : Word) (s : State) : State :=
  match s.checkEdit stream handle with
  | .error (r, d) => s.respond tag 0x24 r d
  | .ok (n, _, i) =>
    if (findAnchor i (s.projected n)).isSome then
      s.acceptEdit tag 0x24 n (.move { index := i, revision := handle.revision } key plateau)
    else s.respond tag 0x24 .notMember []

/-- MOVE (R71). -/
def execMove (tag stream : Byte) (handle : RawHandle) (key plateau : Word) (s : State) :
    Host.Outcome State Fault Refusal :=
  .next (s.onRequest 10 (reqMove tag stream handle key plateau))

/-! ### COMMIT (R74 to R77) -/

/-- The target of a COMMIT: NEXT or an absolute count (R74). -/
inductive Target where
  | next
  | count (n : Word)
deriving DecidableEq, Repr

/-- The target kind byte (section 11.1). -/
def targetOf (kind : Byte) (n : Word) : Option Target :=
  if kind = 0 then some .next else if kind = 1 then some (.count n) else none

/-- The target a stream is armed for: for NEXT one more than its own counter (R75). -/
def Target.resolve (t : Target) (counter : Word) : Word :=
  match t with
  | .next => counter + 1
  | .count n => n

/-- (T - C) mod 65536 (R75). -/
def targetDistance (target counter : Word) : Nat := (target - counter).toNat

/-- The first ATTACH of a list, in list order, that names a damaged entry (R74, R77). -/
def State.damagedAttach (s : State) (es : List Edit) : Option Handle :=
  (es.find? (fun e => match e with
    | .attach h _ _ => s.entries[h.index].damaged
    | .detach _ => false
    | .move _ _ _ => false)).map Edit.handle

/-- The data of a LAYOUT refusal beside the stream (R77): the condition, and what it reports. -/
def LayoutFault.bytes : LayoutFault → List Byte
  | .tooMany count => [1, byteOf count]
  | .crowded a b => [3] ++ wordBytes a.key ++ wordBytes a.plateau ++ wordBytes b.key ++ wordBytes b.plateau
  | .repeated => [4]
  | .mismatched => [5]

/-- The checks COMMIT makes on one stream, in the order of R74; the data of a refusal begins with the stream (R77). -/
def State.checkCommit (s : State) (t : Target) (n : Stream) : Except (Result × List Byte) Word :=
  match s.views[n].config with
  | none => .error (.unconfigured, [streamByte n])
  | some c =>
    if s.lists[n].edits = [] then .error (.nothingPending, [streamByte n])
    else match s.lists[n].target with
      | some armed => .error (.armed, [streamByte n] ++ wordBytes armed)
      | none =>
        match s.damagedAttach s.lists[n].edits with
        | some h => .error (.damaged, [streamByte n] ++ h.bytes)
        | none =>
          match s.layoutFault c (s.projected n) with
          | some f => .error (.layout, [streamByte n] ++ f.bytes)
          | none =>
            let counter := s.points[n].counter
            let target := t.resolve counter
            if 1 ≤ targetDistance target counter ∧ targetDistance target counter ≤ 32767 then .ok target
            else .error (.tooLate, [streamByte n] ++ wordBytes counter ++ wordBytes target)

/-- The checks over the streams of a mask in order; the first failure refuses the whole (R74). -/
def State.checkCommits (s : State) (t : Target) : List Stream → Except (Result × List Byte) (List (Stream × Word))
  | [] => .ok []
  | n :: ns =>
    match s.checkCommit t n with
    | .error e => .error e
    | .ok target =>
      match State.checkCommits s t ns with
      | .error e => .error e
      | .ok rest => .ok ((n, target) :: rest)

/-- Stream n's list armed for a target (R76). -/
def State.arm (s : State) (n : Stream) (target : Word) : State := s.setList n { s.lists[n] with target := some target }

/-- COMMIT (R74 to R77); a mask with any of bits 4-7 set, or an unassigned target kind, is RANGE first (R181), and so is a
mask that names no stream. The answer lists the targets in ascending stream order (the model's choice, log entry 17). -/
def reqCommit (tag mask targetKind : Byte) (count : Word) (s : State) : State :=
  match maskOf mask, targetOf targetKind count with
  | some m, some t =>
    if m = 0 then s.respond tag 0x25 .range []
    else match s.checkCommits t (maskStreams m) with
      | .error (r, d) => s.respond tag 0x25 r d
      | .ok targets =>
        (targets.foldl (fun s p => s.arm p.1 p.2) s).respond tag 0x25 .ok
          ([maskByte m] ++ targets.flatMap (fun p => wordBytes p.2))
  | _, _ => s.respond tag 0x25 .range []

/-- COMMIT (R74). -/
def execCommit (tag mask targetKind : Byte) (count : Word) (s : State) : Host.Outcome State Fault Refusal :=
  .next (s.onRequest 7 (reqCommit tag mask targetKind count))

/-! ### The apply (R80 to R83, R16) -/

/-- The membership an edit of stream n leaves (R16). -/
def Edit.membership (e : Edit) (n : Stream) (m : StreamMask) : StreamMask :=
  match e with
  | .attach _ _ _ => addToMask m n
  | .detach _ => removeFromMask m n
  | .move _ _ _ => m

/-- The state a membership gives: LIVE if it is not empty, STAGED if it is (R16). -/
def stateOfMembership (m : StreamMask) : EntryState := if m = 0 then .staged else .live

/-- The Profile Table takes one edit of an applied list: its pending reference is released (R15), the membership is
updated, and the entry takes the state its membership gives (R16, R82). -/
def State.settleEdit (s : State) (n : Stream) (e : Edit) : State :=
  let i := e.handle.index
  let m := e.membership n s.entries[i].membership
  s.setEntry i { s.entries[i] with membership := m, state := stateOfMembership m,
                                   pendingRefs := s.entries[i].pendingRefs - 1 }

/-- The apply of stream n's list, in one event (R80 to R83): the view takes the edits and its generation goes up by one,
the Profile Table settles each edit, the list is emptied and disarmed, and APPLIED is raised where the mask names n. -/
def State.apply (s : State) (n : Stream) : State :=
  let edits := s.lists[n].edits
  let s := s.setView n { s.views[n] with anchors := applyEdits s.views[n].anchors edits,
                                         generation := s.views[n].generation + 1 }
  let s := edits.foldl (fun s e => s.settleEdit n e) s
  let s := s.setList n { edits := [], target := none }
  if inMask s.appliedMask n then s.raise (.applied n) else s

/-! ### WITHDRAW, DISCARD, QUERY_EDITS -/

/-- Stream n's list disarmed, its edits kept (R85). -/
def State.disarm (s : State) (n : Stream) : State := s.setList n { s.lists[n] with target := none }

/-- The streams of a mask whose lists are ARMED. -/
def State.armedStreams (s : State) (m : StreamMask) : List Stream :=
  (maskStreams m).filter (fun n => s.lists[n].target.isSome)

/-- WITHDRAW (R85): the armed lists of the mask are disarmed; the answer gives the withdrawn mask. -/
def reqWithdraw (tag mask : Byte) (s : State) : State :=
  match maskOf mask with
  | none => s.respond tag 0x26 .range []
  | some m =>
    ((s.armedStreams m).foldl State.disarm s).respond tag 0x26 .ok [maskByte (maskOfStreams (s.armedStreams m))]

/-- WITHDRAW (R85). -/
def execWithdraw (tag mask : Byte) (s : State) : Host.Outcome State Fault Refusal :=
  .next (s.onRequest 4 (reqWithdraw tag mask))

/-- Stream n's list emptied, each edit's pending reference released (R87, R15). -/
def State.emptyList (s : State) (n : Stream) : State :=
  (s.lists[n].edits.foldl (fun s e => s.releasePending e.handle.index) s).setList n { s.lists[n] with edits := [] }

/-- The streams of a mask whose lists a DISCARD empties: UNARMED, with at least one edit (R87). -/
def State.discardable (s : State) (m : StreamMask) : List Stream :=
  (maskStreams m).filter (fun n => s.lists[n].target = none && s.lists[n].edits ≠ [])

/-- DISCARD (R87): the answer gives the discarded mask, the number of edits removed and the armed mask. -/
def reqDiscard (tag mask : Byte) (s : State) : State :=
  match maskOf mask with
  | none => s.respond tag 0x27 .range []
  | some m =>
    ((s.discardable m).foldl State.emptyList s).respond tag 0x27 .ok
      [maskByte (maskOfStreams (s.discardable m)), byteOf (((s.discardable m).map (fun n => s.lists[n].edits.length)).sum),
       maskByte (maskOfStreams (s.armedStreams m))]

/-- DISCARD (R87). -/
def execDiscard (tag mask : Byte) (s : State) : Host.Outcome State Fault Refusal :=
  .next (s.onRequest 4 (reqDiscard tag mask))

/-- One edit in QUERY_EDITS' data: kind, handle, key and plateau, zero for DETACH (section 11.1). -/
def Edit.bytes : Edit → List Byte
  | .attach h k p => [0x01] ++ h.bytes ++ wordBytes k ++ wordBytes p
  | .detach h => [0x02] ++ h.bytes ++ [0, 0, 0, 0]
  | .move h k p => [0x03] ++ h.bytes ++ wordBytes k ++ wordBytes p

/-- The data of QUERY_EDITS (R89; section 11.1). -/
def State.editBytes (s : State) (n : Stream) : List Byte :=
  [streamByte n, flagByte s.lists[n].target.isSome] ++ wordBytes (s.lists[n].target.getD 0)
    ++ [byteOf s.lists[n].edits.length] ++ s.lists[n].edits.flatMap Edit.bytes

/-- QUERY_EDITS (R89). -/
def reqQueryEdits (tag stream : Byte) (s : State) : State :=
  match streamOf stream with
  | none => s.respond tag 0x28 .range []
  | some n => s.respond tag 0x28 .ok (s.editBytes n)

/-- QUERY_EDITS (R89). -/
def execQueryEdits (tag stream : Byte) (s : State) : Host.Outcome State Fault Refusal :=
  .next (s.onRequest 4 (reqQueryEdits tag stream))

end Sys2Proof.Machine
end

