-- ==== Sys2Proof/Machine/Points.lean ====
section
/-! DEFINITION. Publication points: BOUNDARY_EDGE, POINT, SET_POINTS, CLEAR_COUNTS, QUERY_POINTS (chapter 5). -/

namespace Sys2Proof.Machine

/-- A publication point on stream n (R95): the counter goes up by one, modulo 65536, and where the stream is armed for
the value made its list is applied in the same event (R80). -/
def State.makePoint (s : State) (n : Stream) : State :=
  let counter := s.points[n].counter + 1
  let s := s.setPoint n { s.points[n] with counter := counter }
  if s.lists[n].target = some counter then s.apply n else s

/-- Stream n is offered an edge it counts (R94): the edge count goes up by one, and at the prescale it returns to 0 and a
point is made. -/
def State.countEdge (s : State) (n : Stream) : State :=
  if s.points[n].edgeCount + 1 = s.points[n].prescale then
    (s.setPoint n { s.points[n] with edgeCount := 0 }).makePoint n
  else s.setPoint n { s.points[n] with edgeCount := s.points[n].edgeCount + 1 }

/-- The polarity of a change to a level (R93). -/
def edgeTo : LineLevel → Polarity
  | .high => .rising
  | .low => .falling

/-- The streams that count an edge on a line to a level (R93). -/
def State.countingStreams (s : State) (line : Stream) (level : LineLevel) : List Stream :=
  allStreams.filter (fun n => s.points[n].source = line && s.points[n].polarity = edgeTo level)

/-- BOUNDARY_EDGE (R93): the new level is recorded and the edge offered to every stream that counts it. A level the line
already has is no edge. -/
def execBoundaryEdge (line : Stream) (level : LineLevel) (s : State) : Host.Outcome State Fault Refusal :=
  if s.lines[line] = level then .next s
  else .next ((s.countingStreams line level).foldl State.countEdge { s with lines := s.lines.set line level })

/-- POINT (R96): one point on each stream of the mask, edge counts aside; the answer gives the mask and the counter value
each stream's point made, in ascending stream order (the model's choice, log entry 17). -/
def reqPoint (tag mask : Byte) (s : State) : State :=
  match maskOf mask with
  | none => s.respond tag 0x30 .range []
  | some m =>
    let s' := (maskStreams m).foldl State.makePoint s
    s'.respond tag 0x30 .ok ([maskByte m] ++ (maskStreams m).flatMap (fun n => wordBytes s'.points[n].counter))

/-- POINT (R96). -/
def execPoint (tag mask : Byte) (s : State) : Host.Outcome State Fault Refusal :=
  .next (s.onRequest 4 (reqPoint tag mask))

/-- SET_POINTS (R98, R99): the settings are written and the edge count set to 0; the counter is kept. -/
def reqSetPoints (tag stream source polarity prescale : Byte) (s : State) : State :=
  match streamOf stream, streamOf source, polarityOf polarity with
  | some n, some src, some pol =>
    if prescale.toNat < 1 ∨ 16 < prescale.toNat then s.respond tag 0x31 .range []
    else match s.lists[n].target with
      | some t => s.respond tag 0x31 .armed (wordBytes t)
      | none =>
        (s.setPoint n { s.points[n] with source := src, polarity := pol, prescale := prescale.toNat, edgeCount := 0 }).respond
          tag 0x31 .ok ([stream, source, polarity, prescale] ++ wordBytes s.points[n].counter)
  | _, _, _ => s.respond tag 0x31 .range []

/-- SET_POINTS (R98). -/
def execSetPoints (tag stream source polarity prescale : Byte) (s : State) : Host.Outcome State Fault Refusal :=
  .next (s.onRequest 7 (reqSetPoints tag stream source polarity prescale))

/-- Stream n's counter and edge count set to 0 (R100). -/
def State.clearCount (s : State) (n : Stream) : State := s.setPoint n { s.points[n] with edgeCount := 0, counter := 0 }

/-- The streams of a mask whose lists are UNARMED. -/
def State.unarmedStreams (s : State) (m : StreamMask) : List Stream :=
  (maskStreams m).filter (fun n => s.lists[n].target = none)

/-- CLEAR_COUNTS (R100): the answer gives the cleared mask and the armed mask. -/
def reqClearCounts (tag mask : Byte) (s : State) : State :=
  match maskOf mask with
  | none => s.respond tag 0x32 .range []
  | some m =>
    ((s.unarmedStreams m).foldl State.clearCount s).respond tag 0x32 .ok
      [maskByte (maskOfStreams (s.unarmedStreams m)), maskByte (maskOfStreams (s.armedStreams m))]

/-- CLEAR_COUNTS (R100). -/
def execClearCounts (tag mask : Byte) (s : State) : Host.Outcome State Fault Refusal :=
  .next (s.onRequest 4 (reqClearCounts tag mask))

/-- One stream's record in QUERY_POINTS' data (R101). -/
def PointRecord.bytes (r : PointRecord) : List Byte :=
  [streamByte r.source, r.polarity.byte, byteOf r.prescale, byteOf r.edgeCount] ++ wordBytes r.counter

/-- QUERY_POINTS (R101): every stream's record, then every line's level. -/
def reqQueryPoints (tag : Byte) (s : State) : State :=
  s.respond tag 0x33 .ok
    (allStreams.flatMap (fun n => s.points[n].bytes) ++ allStreams.map (fun n => levelByte s.lines[n]))

/-- QUERY_POINTS (R101). -/
def execQueryPoints (tag : Byte) (s : State) : Host.Outcome State Fault Refusal :=
  .next (s.onRequest 3 (reqQueryPoints tag))

end Sys2Proof.Machine
end

