-- ==== Sys2Proof/Machine/Selection.lean ====
section
/-! DEFINITION. Selection and blending: the zone of a key, the weight, the selection, the knots of a row (chapter 6). -/

namespace Sys2Proof.Machine

/-- The weight toward the upper anchor of a gap: ⌊256 (k - U) / (L' - U)⌋ (R107). -/
def blendWeight (k upper lower : Nat) : Nat := 256 * (k - upper) / (lower - upper)

/-- What a key's zone chooses (R105 to R107): nothing on an empty view, one anchor, or a pair with its weight. -/
inductive Choice where
  | empty
  | single (a : Anchor)
  | pair (a b : Anchor) (weight : Nat)
deriving DecidableEq, Repr

/-- The choice for a key in the gap between two plateaus (R107): a weight of 0 is anchor a alone. -/
def gapChoice (a b : Anchor) (k : Nat) : Choice :=
  if blendWeight k a.upper b.lower = 0 then .single a else .pair a b (blendWeight k a.upper b.lower)

/-- The zone of a key over anchors in ascending key order (R106): at or below the first upper edge the first anchor;
below the next lower edge the gap; else the rest of the list. -/
def choose : List Anchor → Nat → Choice
  | [], _ => .empty
  | [a], _ => .single a
  | a :: b :: rest, k =>
    if k ≤ a.upper then .single a
    else if k < b.lower then gapChoice a b k
    else choose (b :: rest) k

/-- The damaged flag of the entry an anchor names (R108). -/
def State.anchorDamaged (s : State) (a : Anchor) : Bool := s.entries[a.handle.index].damaged

/-- The selection a choice gives with the damaged flags as they stand (R105, R108). -/
def State.selectionOf (s : State) : Choice → Selection
  | .empty => .fallback
  | .single a => if s.anchorDamaged a then .fallback else .pure a.handle
  | .pair a b w =>
    match s.anchorDamaged a, s.anchorDamaged b with
    | false, false => .blend a.handle b.handle (byteOf w)
    | true, false => .degraded b.handle
    | false, true => .degraded a.handle
    | true, true => .fallback

/-- The selection formed at acceptance on stream n's view (R104). -/
def State.select (s : State) (n : Stream) (key : Word) : Selection :=
  s.selectionOf (choose s.views[n].anchors key.toNat)

/-- The entries a selection names, on which its lookup holds references (R17, R103). -/
def Selection.sources : Selection → List EntryIndex
  | .pure a => [a.index]
  | .blend a b _ => [a.index, b.index]
  | .degraded a => [a.index]
  | .fallback => []

/-- The END status after the last row (R111). -/
def Selection.endStatus : Selection → EndStatus
  | .pure _ => .complete
  | .blend _ _ _ => .complete
  | .degraded _ => .degraded
  | .fallback => .fallback

/-- A blended knot: ((256 - w) a + w b + 128) / 256, rounded down (R112). -/
def blendKnot (w : Byte) (a b : Knot) : Knot :=
  BitVec.ofNat 12 (((256 - w.toNat) * a.toNat + w.toNat * b.toNat + 128) / 256)

/-- The blended knots at the given indices, anchor A's word read before anchor B's (R139); `.error` with the entry whose
word holds the first parity fault met (R142). -/
def State.blendRow (s : State) (w : Byte) (a b : EntryIndex) : List Nat → Except EntryIndex (List Knot)
  | [] => .ok []
  | j :: js =>
    if !(s.readKnot a j).good then .error a
    else if !(s.readKnot b j).good then .error b
    else match State.blendRow s w a b js with
      | .ok ks => .ok (blendKnot w (s.readKnot a j).value (s.readKnot b j).value :: ks)
      | .error e => .error e

/-- The knots of a row taken unchanged from one entry (R139). -/
def State.pureRow (s : State) (a : EntryIndex) (js : List Nat) : Except EntryIndex (List Knot) :=
  match readWords (s.readKnot a) js with
  | .ok ks => .ok ks
  | .error _ => .error a

/-- The knots of row r of a lookup's surface, in ascending index order (R110, R113, R139, R140). -/
def State.rowKnots (s : State) (l : Lookup) (r : Nat) : Except EntryIndex (List Knot) :=
  let js := List.range' (r * l.geometry.rowLength) l.geometry.rowLength
  match l.selection with
  | .pure a => s.pureRow a.index js
  | .degraded a => s.pureRow a.index js
  | .blend a b w => s.blendRow w a.index b.index js
  | .fallback => .ok (List.replicate l.geometry.rowLength l.format.unity)

end Sys2Proof.Machine
end

