-- ==== Sys2Proof/Machine/Link.lean ====
section
/-! DEFINITION. The lookup ports: message framing, LOOKUP, CREDIT, CANCEL, RESET, held messages, the stall timer, the
provenance header, SET_PORT, QUERY_PORT (chapters 7 and 8, section 8.5). -/

namespace Sys2Proof.Machine

/-! ### Outgoing messages -/

/-- Port p changed by a function of its record. -/
def State.modPort (s : State) (p : Stream) (f : Port → Port) : State := s.setPort p (f s.ports[p])

/-- Messages made on port p's outgoing lane, in this order (R114). -/
def State.send (s : State) (p : Stream) (ms : List OutMessage) : State :=
  s.modPort p (fun x => { x with out := x.out ++ ms })

/-- What a header says of an anchor: handle, with the label and origin of its entry (R148). -/
def State.anchorItem (s : State) (h : Handle) : AnchorItem :=
  match s.entries[h.index].profile with
  | some p => { handle := h, label := p.label, origin := p.origin }
  | none => { handle := h, label := 0, origin := .host }

/-- The selection kind (R103). -/
def Selection.kind : Selection → SelectionKind
  | .pure _ => .pure
  | .blend _ _ _ => .blend
  | .degraded _ => .degraded
  | .fallback => .fallback

/-- Anchor A of a selection: absent for FALLBACK (R103). -/
def Selection.anchorA : Selection → Option Handle
  | .pure a => some a
  | .blend a _ _ => some a
  | .degraded a => some a
  | .fallback => none

/-- Anchor B of a selection: present for BLEND (R103). -/
def Selection.anchorB : Selection → Option Handle
  | .blend _ b _ => some b
  | .pure _ => none
  | .degraded _ => none
  | .fallback => none

/-- The weight of a selection, where a header reports it (R103, R148). -/
def Selection.weight : Selection → Option Byte
  | .blend _ _ w => some w
  | .pure _ => none
  | .degraded _ => none
  | .fallback => none

/-- The provenance header of a lookup that becomes head of port p (R147, R148): no row of it has been granted, so its
rows owed are its whole run. -/
def State.headerOf (s : State) (p : Stream) (l : Lookup) : Header :=
  { tag := l.tag, stream := p, kind := l.selection.kind, generation := l.generation, counter := l.counter,
    geometry := l.geometry, format := l.format, firstRow := l.rowsOwed.headD 0, rowCount := l.rowsOwed.length,
    anchorA := l.selection.anchorA.map s.anchorItem, anchorB := l.selection.anchorB.map s.anchorItem,
    weight := l.selection.weight }

/-! ### The stall timer (R128) -/

/-- The timer judged in an event that may start it (R126, R128): it starts when the head is owed rows, has none granted,
is not cancelling, the port holds 0 credits and the stall limit is not 0. -/
def Port.judgeTimer (x : Port) : Port :=
  match x.queue with
  | [] => x
  | h :: _ =>
    if h.rowsOwed ≠ [] ∧ h.granted = none ∧ h.cancelling = false ∧ x.credits = 0 ∧ x.stallLimit.toNat ≠ 0 then
      { x with timer := .running 0 x.stallLimit.toNat }
    else x

/-! ### References and ends (R17, R18, section 7.9) -/

/-- The references of a selection taken (R17). -/
def State.takeRefs (s : State) (sel : Selection) : State := sel.sources.foldl State.takeLookupRef s

/-- The references of a selection released, anchor A's first (R18; log entry 15). -/
def State.releaseRefs (s : State) (sel : Selection) : State := sel.sources.foldl State.releaseLookupRef s

/-- The head of port p ends (section 7.9): these messages are made, its references are released, it leaves the queue, the
timer stops, and a waiting lookup becomes head with its HEADER, the timer being judged for it (R124, R126, R129). -/
def State.endHead (s : State) (p : Stream) (ms : List OutMessage) : State :=
  match s.ports[p].queue with
  | [] => s
  | h :: rest =>
    let s := (s.releaseRefs h.selection).modPort p
      (fun x => { x with queue := rest, timer := .stopped, out := x.out ++ ms })
    match rest with
    | [] => s
    | w :: _ => (s.send p [.header (s.headerOf p w)]).modPort p Port.judgeTimer

/-- The waiting lookup of port p ends with these messages (R130, R133, R134): its references are released and the head is
not touched. -/
def State.endWaiting (s : State) (p : Stream) (ms : List OutMessage) : State :=
  match s.ports[p].queue with
  | h :: w :: _ => (s.releaseRefs w.selection).modPort p (fun x => { x with queue := [h], out := x.out ++ ms })
  | _ => s

/-- The head's rows owed dropped and the head set cancelling (R131, R134). -/
def Port.cancelHead (x : Port) : Port :=
  match x.queue with
  | [] => x
  | h :: rest => { x with queue := { h with rowsOwed := [], cancelling := true } :: rest }

/-- The head's rows owed dropped and the head set resetting; credits 0, timer stopped (R133). -/
def Port.resetHead (x : Port) : Port :=
  match x.queue with
  | [] => x
  | h :: rest => { x with queue := { h with rowsOwed := [], resetting := true } :: rest, credits := 0, timer := .stopped }

/-- The port waits for the granted row of a head that a RESET has ended (R133). -/
def Port.resetting (x : Port) : Bool :=
  match x.queue with
  | [] => false
  | h :: _ => h.resetting

/-! ### LOOKUP (R120 to R122) -/

/-- The rows of a LOOKUP lie within the grid (R120). -/
def rowsWithin (rows first count : Nat) : Bool := first < rows && (count = 0 || first + count ≤ rows)

/-- The resolved run of rows (R120): a count of 0 is every row from the first to the last. -/
def rowRun (rows first count : Nat) : List Nat := List.range' first (if count = 0 then rows - first else count)

/-- A lookup is accepted on port p (R122): its selection is formed, the kept items are kept (R62), references are taken,
and it joins the queue; into an empty queue it becomes head, with its HEADER, and the timer is judged. -/
def State.acceptLookup (s : State) (p : Stream) (c : ViewConfig) (tag : Byte) (key : Word) (first count : Nat) : State :=
  let sel := s.select p key
  let l : Lookup :=
    { tag := tag, selection := sel, geometry := c.geometry, format := c.format, generation := s.views[p].generation,
      counter := s.points[p].counter, rowsOwed := rowRun c.geometry.rows first count, granted := none,
      cancelling := false, resetting := false, rowsSent := 0 }
  let becomesHead := s.ports[p].queue.isEmpty
  let s := (s.takeRefs sel).modPort p (fun x => { x with queue := x.queue ++ [l] })
  if becomesHead then (s.send p [.header (s.headerOf p l)]).modPort p Port.judgeTimer else s

/-- A LOOKUP taken (R118, R121): the first failing check gives its one answer. -/
def State.takeLookup (s : State) (p : Stream) (tag : Byte) (key : Word) (first count : Nat) : State :=
  let x := s.ports[p]
  if !x.active then s.send p [.ended tag .notReady]
  else if !x.enabled then s.send p [.ended tag .disabled]
  else if x.queue.any (fun l => l.tag = tag) then s.send p [.notice (.tagInUse tag)]
  else if 2 ≤ x.queue.length then s.send p [.ended tag .queueFull]
  else match s.views[p].config with
    | none => s.send p [.ended tag .unconfigured]
    | some c =>
      if rowsWithin c.geometry.rows first count then s.acceptLookup p c tag key first count
      else s.send p [.ended tag .range]

/-! ### CREDIT, CANCEL, RESET (R127, R130 to R133) -/

/-- A CREDIT on an ACTIVE port (R127): the credits go up by n, at most to 4 with NOTICE(CREDIT_OVERFLOW); a running timer
stops. -/
def State.takeCredit (s : State) (p : Stream) (n : Nat) : State :=
  let x := s.ports[p]
  let x' := { x with credits := min (x.credits + n) 4, timer := .stopped }
  s.setPort p (if 4 < x.credits + n then { x' with out := x.out ++ [.notice .creditOverflow] } else x')

/-- A CANCEL on an ACTIVE port (R130, R131). -/
def State.takeCancel (s : State) (p : Stream) (tag : Byte) : State :=
  match s.ports[p].queue with
  | [] => s.send p [.notice (.unknownTag tag)]
  | h :: rest =>
    if h.tag = tag then
      match h.granted with
      | none => s.endHead p [.ended tag .cancelled]
      | some _ => s.modPort p Port.cancelHead
    else match rest with
      | [] => s.send p [.notice (.unknownTag tag)]
      | w :: _ =>
        if w.tag = tag then s.endWaiting p [.ended tag .cancelled] else s.send p [.notice (.unknownTag tag)]

/-- A RESET on an ACTIVE port (R132, R133). -/
def State.takeReset (s : State) (p : Stream) : State :=
  match s.ports[p].queue with
  | [] => s.modPort p (fun x => { x with credits := 0, timer := .stopped, out := x.out ++ [.notice .resetDone] })
  | h :: rest =>
    match h.granted with
    | some _ => (s.endWaiting p []).modPort p Port.resetHead
    | none =>
      ((h :: rest).foldl (fun s l => s.releaseRefs l.selection) s).modPort p
        (fun x => { x with queue := [], credits := 0, timer := .stopped, out := x.out ++ [.notice .resetDone] })

/-- A message that has passed its checks is taken by port p; an OFFLINE port answers a LOOKUP and discards every other
(R118, R119, R121). -/
def State.takeMessage (s : State) (p : Stream) (m : LinkMessage) : State :=
  match m with
  | .lookup tag key first count => s.takeLookup p tag key first.toNat count.toNat
  | .credit n => if s.ports[p].active then s.takeCredit p n.toNat else s
  | .cancel tag => if s.ports[p].active then s.takeCancel p tag else s
  | .reset => if s.ports[p].active then s.takeReset p else s

/-- A message that has passed its checks arrives at port p. While a reset waits for its granted row it is held, up to 8
deep, and discarded with NOTICE(BAD_MESSAGE) when 8 are held (R133); else it is taken. That the lane does not skip after
this discard is the model's choice (log entry 30). -/
def State.arrive (s : State) (p : Stream) (m : LinkMessage) : State :=
  if s.ports[p].resetting then
    if s.ports[p].held.length < 8 then s.modPort p (fun x => { x with held := x.held ++ [m] })
    else s.send p [.notice .badMessage]
  else s.takeMessage p m

/-! ### Framing (R114, R116, R118, R182) -/

/-- A message is discarded for its kind, its check byte or a field (R116, R118): the lane is skipped to an idle byte, and
an ACTIVE port makes NOTICE(BAD_MESSAGE). -/
def State.discard (s : State) (p : Stream) : State :=
  let s := s.modPort p (fun x => { x with framing := .skipping })
  if s.ports[p].active then s.send p [.notice .badMessage] else s

/-- A whole framed message is judged (R115, R116). -/
def State.judgeMessage (s : State) (p : Stream) (bytes : List Byte) : State :=
  match parseMessage bytes with
  | some m => if m.fieldsOk then s.arrive p m else s.discard p
  | none => s.discard p

/-- One byte arrives on port p's incoming lane (R114, R116, R182). -/
def State.receiveByte (s : State) (p : Stream) (b : Byte) : State :=
  match s.ports[p].framing with
  | .skipping => if b = 0 then s.modPort p (fun x => { x with framing := .waiting }) else s
  | .waiting =>
    if b = 0 then s
    else match messageLength b with
      | none => s.discard p
      | some _ => s.modPort p (fun x => { x with framing := .inside [b] })
  | .inside bytes =>
    let bytes := bytes ++ [b]
    match bytes.head?.bind messageLength with
    | none => s.discard p
    | some n =>
      if bytes.length < n then s.modPort p (fun x => { x with framing := .inside bytes })
      else (s.modPort p (fun x => { x with framing := .waiting })).judgeMessage p bytes

/-- Bytes arrive on port p's incoming lane, one after another (R114). -/
def State.receive (s : State) (p : Stream) (bytes : List Byte) : State := bytes.foldl (fun s b => s.receiveByte p b) s

/-- LOOKUP (R121): the message's bytes arrive. -/
def execLookup (p : Stream) (tag : Byte) (key : Word) (first count : Byte) (s : State) :
    Host.Outcome State Fault Refusal :=
  .next (s.receive p (LinkMessage.lookup tag key first count).encode)

/-- CREDIT (R127): the message's bytes arrive. -/
def execCredit (p : Stream) (n : Byte) (s : State) : Host.Outcome State Fault Refusal :=
  .next (s.receive p (LinkMessage.credit n).encode)

/-- CANCEL (R130): the message's bytes arrive. -/
def execCancel (p : Stream) (tag : Byte) (s : State) : Host.Outcome State Fault Refusal :=
  .next (s.receive p (LinkMessage.cancel tag).encode)

/-- RESET (R132): the message's bytes arrive. -/
def execLinkReset (p : Stream) (s : State) : Host.Outcome State Fault Refusal :=
  .next (s.receive p LinkMessage.reset.encode)

/-- BAD_MESSAGE (R116): the bytes arrive. -/
def execBadMessage (p : Stream) (bytes : List Byte) (s : State) : Host.Outcome State Fault Refusal :=
  .next (s.receive p bytes)

/-- LINK_MESSAGE_HELD (R133): the message's bytes arrive. -/
def execLinkMessageHeld (p : Stream) (m : LinkMessage) (s : State) : Host.Outcome State Fault Refusal :=
  .next (s.receive p m.encode)

/-- IDLE_BYTE (R116, R118): an idle byte arrives. -/
def execIdleByte (p : Stream) (s : State) : Host.Outcome State Fault Refusal := .next (s.receive p [0])

/-! ### STALL_EXPIRY (R129) -/

/-- The stall timer of port p expires (R129): END(STALLED), and the head ends. -/
def State.expire (s : State) (p : Stream) : State :=
  match s.ports[p].queue with
  | [] => s
  | h :: _ => s.endHead p [.ended h.tag .stalled]

/-- STALL_EXPIRY (R129): the running timer of port p reaches its recorded limit; nothing where none runs (log entries 7
and 14). -/
def execStallExpiry (p : Stream) (s : State) : Host.Outcome State Fault Refusal :=
  match s.ports[p].timer with
  | .running _ _ => .next (s.expire p)
  | .stopped => .next s

/-! ### SET_PORT and QUERY_PORT (R134, R135) -/

/-- The lookups a change from ENABLED to DISABLED ends, in their order (R134): every one but a resetting head. -/
def Port.endedByDisable (x : Port) : Nat := (x.queue.filter (fun l => !l.resetting)).length

/-- A change from ENABLED to DISABLED ends the port's lookups (R134): the waiting one with END(CANCELLED), then the head;
a head with a granted row is set cancelling, unless it is resetting. -/
def State.disablePort (s : State) (p : Stream) : State :=
  match s.ports[p].queue with
  | [] => s
  | h :: rest =>
    let s := match rest with
      | [] => s
      | w :: _ => s.endWaiting p [.ended w.tag .cancelled]
    match h.granted with
    | none => s.endHead p [.ended h.tag .cancelled]
    | some _ => if h.resetting then s else s.modPort p Port.cancelHead

/-- SET_PORT (R134). -/
def reqSetPort (tag port enable stallLimit : Byte) (s : State) : State :=
  match streamOf port, flagOf enable with
  | some p, some e =>
    let disabling := s.ports[p].enabled && !e
    let ended := if disabling then s.ports[p].endedByDisable else 0
    let s := s.modPort p (fun x => { x with enabled := e, stallLimit := stallLimit })
    let s := if disabling then s.disablePort p else s
    s.respond tag 0x40 .ok [port, enable, stallLimit, byteOf ended]
  | _, _ => s.respond tag 0x40 .range []

/-- SET_PORT (R134). -/
def execSetPort (tag port enable stallLimit : Byte) (s : State) : Host.Outcome State Fault Refusal :=
  .next (s.onRequest 6 (reqSetPort tag port enable stallLimit))

/-- One lookup in QUERY_PORT's data (R135). -/
def Lookup.bytes (l : Lookup) : List Byte :=
  [l.tag, byteOf l.rowsSent, byteOf l.rowsOwed.length, flagByte l.granted.isSome, flagByte l.cancelling,
   flagByte l.resetting]

/-- The timer is running. -/
def Timer.isRunning : Timer → Bool
  | .running _ _ => true
  | .stopped => false

/-- The data of QUERY_PORT (R135). -/
def Port.bytes (x : Port) (p : Stream) : List Byte :=
  [streamByte p, flagByte x.active, flagByte x.enabled, byteOf x.credits, x.stallLimit, flagByte x.timer.isRunning,
   byteOf x.queue.length] ++ x.queue.flatMap Lookup.bytes

/-- QUERY_PORT (R135). -/
def reqQueryPort (tag port : Byte) (s : State) : State :=
  match streamOf port with
  | none => s.respond tag 0x41 .range []
  | some p => s.respond tag 0x41 .ok (s.ports[p].bytes p)

/-- QUERY_PORT (R135). -/
def execQueryPort (tag port : Byte) (s : State) : Host.Outcome State Fault Refusal :=
  .next (s.onRequest 4 (reqQueryPort tag port))

/-! ### Bytes of outgoing messages (11_formats.md, sections 11.3 and 11.4) -/

/-- Section 11.3, END statuses. -/
def EndStatus.byte : EndStatus → Byte
  | .complete => 0x00
  | .degraded => 0x01
  | .fallback => 0x02
  | .cancelled => 0x03
  | .stalled => 0x04
  | .damaged => 0x05
  | .queueFull => 0x06
  | .range => 0x07
  | .notReady => 0x08
  | .unconfigured => 0x09
  | .disabled => 0x0A

/-- Section 11.3, notice kinds, then the tag, 0xFF for kinds that carry none. -/
def Notice.bytes : Notice → List Byte
  | .ready => [0x01, 0xFF]
  | .badMessage => [0x02, 0xFF]
  | .creditOverflow => [0x03, 0xFF]
  | .unknownTag tag => [0x04, tag]
  | .tagInUse tag => [0x05, tag]
  | .resetDone => [0x06, 0xFF]

/-- Section 11.4, selection kinds. -/
def SelectionKind.byte : SelectionKind → Byte
  | .pure => 0x00
  | .blend => 0x01
  | .degraded => 0x02
  | .fallback => 0x03

/-- An anchor item's value: handle, label, origin (section 11.4). -/
def AnchorItem.bytes (a : AnchorItem) : List Byte := a.handle.bytes ++ wordBytes a.label ++ [a.origin.byte]

/-- The items of a header, in the order of R148, absent items left out (section 11.4). -/
def Header.items (h : Header) : List Byte :=
  [0x01, h.tag, streamByte h.stream] ++ [0x02, h.kind.byte] ++ [0x03] ++ wordBytes h.generation ++ wordBytes h.counter
    ++ [0x04] ++ h.geometry.bytes ++ [h.format.byte] ++ [0x05, byteOf h.firstRow, byteOf h.rowCount]
    ++ (match h.anchorA with
        | some a => [0x06] ++ a.bytes
        | none => [])
    ++ (match h.anchorB with
        | some b => [0x07] ++ b.bytes
        | none => [])
    ++ (match h.weight with
        | some w => [0x08, w]
        | none => [])
    ++ [0xFF]

/-- The bytes of an outgoing message before its check byte (section 11.3, R182). -/
def OutMessage.body : OutMessage → List Byte
  | .header h => [0x81, byteOf h.items.length] ++ h.items
  | .row tag r ks => [0x82, byteOf (2 + 2 * ks.length), tag, byteOf r] ++ ks.flatMap knotBytes
  | .ended tag status => [0x83, tag, status.byte]
  | .notice n => 0x84 :: n.bytes

/-- An outgoing message as it is sent, its check byte last (R114, R115). -/
def OutMessage.encode (m : OutMessage) : List Byte := m.body ++ [crc8 m.body]

/-- A run of bytes on the outgoing lane with the idle byte sent after it (R114: at least one; log entry 18). -/
def withIdle (bytes : List Byte) : List Byte := bytes ++ [0x00]

/-- The bytes of the outgoing lane (R114): what it had sent of a message that a device reset cut off, then each message
made since, whole and in the order of making, an idle byte after each. -/
def Port.laneBytes (x : Port) : List Byte :=
  (if x.cut = [] then [] else withIdle x.cut) ++ x.out.flatMap (fun m => withIdle m.encode)

/-- What a lane that has sent n bytes of these messages has sent of the one it is sending; nothing where it stands
between two messages (R114). -/
def cutOff : List OutMessage → Nat → List Byte
  | [], _ => []
  | m :: ms, n => if n < m.encode.length then m.encode.take n else cutOff ms (n - m.encode.length)

end Sys2Proof.Machine
end

