-- ==== Sys2Proof/Machine/Surface.lean ====
section
/-! DEFINITION. The Surface Engine: GRANT, HANDOVER, FAULT_REPORT (chapter 8). -/

namespace Sys2Proof.Machine

/-- The port is a candidate for the grant (R125, R137): its head is owed rows, has no granted row and is not cancelling,
and the port holds a credit. -/
def Port.candidate (x : Port) : Bool :=
  match x.queue with
  | [] => false
  | h :: _ => h.rowsOwed ≠ [] && h.granted = none && !h.cancelling && 1 ≤ x.credits

/-- The ports in the order a grant looks at them: from the port after last granted, cyclically (R137). -/
def grantOrder (last : Stream) : List Stream := [last + 1, last + 2, last + 3, last]

/-- The port a grant goes to (R137). -/
def State.grantee (s : State) : Option Stream := (grantOrder s.lastGranted).find? (fun p => s.ports[p].candidate)

/-- The head's lowest row owed becomes its granted row (R125). -/
def Port.grantHead (x : Port) : Port :=
  match x.queue with
  | [] => x
  | h :: rest => { x with queue := { h with granted := h.rowsOwed.head?, rowsOwed := h.rowsOwed.tail } :: rest }

/-- The tag of the head and its lowest row owed. -/
def Port.nextRow (x : Port) : Option (Byte × Nat) :=
  match x.queue with
  | [] => none
  | h :: _ => h.rowsOwed.head?.map (fun r => (h.tag, r))

/-- GRANT (R137): an IDLE datapath is granted to the first candidate in order; nothing while it is PRODUCING or no port is
a candidate. -/
def execGrant (s : State) : Host.Outcome State Fault Refusal :=
  match s.datapath, s.grantee with
  | none, some p =>
    match s.ports[p].nextRow with
    | some (tag, r) =>
      .next { s.modPort p Port.grantHead with
                lastGranted := p, datapath := some { port := p, tag := tag, row := r } }
    | none => .next s
  | _, _ => .next s

/-- A resetting head leaves port p without an END, its references are released, NOTICE(RESET_DONE) is made, and the
messages held meanwhile are taken in their order of arrival (R133; log entry 11). -/
def State.finishReset (s : State) (p : Stream) : State :=
  match s.ports[p].queue with
  | [] => s
  | h :: _ =>
    let held := s.ports[p].held
    let s := (s.releaseRefs h.selection).modPort p
      (fun x => { x with queue := [], held := [], out := x.out ++ [.notice .resetDone] })
    held.foldl (fun s m => s.takeMessage p m) s

/-- The row's ROW is made: a credit is consumed, rows sent goes up by one and the granted row is cleared (R125). -/
def Port.makeRow (x : Port) (r : Nat) (ks : List Knot) : Port :=
  match x.queue with
  | [] => x
  | h :: rest =>
    { x with credits := x.credits - 1
             queue := { h with granted := none, rowsSent := h.rowsSent + 1 } :: rest
             out := x.out ++ [.row h.tag r ks] }

/-- The handover of a finished row to port p with head h (R125, R126, R131, R133, R139). -/
def State.handOver (s : State) (p : Stream) (h : Lookup) (r : Nat) (ks : List Knot) : State :=
  let s := { s with datapath := none }
  if h.resetting then s.finishReset p
  else
    let s := s.modPort p (fun x => x.makeRow r ks)
    if h.cancelling then s.endHead p [.ended h.tag .cancelled]
    else if h.rowsOwed = [] then s.endHead p [.ended h.tag h.selection.endStatus]
    else s.modPort p Port.judgeTimer

/-- A fault report handed to port p with head h in place of a row (R142, R143). -/
def State.reportFault (s : State) (p : Stream) (h : Lookup) (i : EntryIndex) : State :=
  let s := { s.reportDamage i with datapath := none }
  if h.resetting then s.finishReset p else s.endHead p [.ended h.tag .damaged]

/-- HANDOVER (R139, R140): the row in production is finished, every word of it read with good parity. Nothing where no row
is in production or a word of it holds a fault (log entries 5 and 7). -/
def execHandover (s : State) : Host.Outcome State Fault Refusal :=
  match s.datapath with
  | none => .next s
  | some d =>
    match s.ports[d.port].queue with
    | [] => .next s
    | h :: _ =>
      match s.rowKnots h d.row with
      | .ok ks => .next (s.handOver d.port h d.row ks)
      | .error _ => .next s

/-- FAULT_REPORT (R142): a read of the row in production finds a parity fault. Nothing where no row is in production or
every word of it is good (log entries 5 and 7). -/
def execFaultReport (s : State) : Host.Outcome State Fault Refusal :=
  match s.datapath with
  | none => .next s
  | some d =>
    match s.ports[d.port].queue with
    | [] => .next s
    | h :: _ =>
      match s.rowKnots h d.row with
      | .ok _ => .next s
      | .error i => .next (s.reportFault d.port h i)

end Sys2Proof.Machine
end

