-- ==== Sys2Proof/Machine/Baseline.lean ====
section
/-! DEFINITION. The Baseline Store: PROGRAM_BASELINE and its stages, RESTORE_BASELINE, QUERY_SLOT, DEVICE_RESET and the
start-up load (chapter 9). -/

namespace Sys2Proof.Machine

/-! ### PROGRAM_BASELINE (R154 to R157) -/

/-- PROGRAM_BASELINE (R154): slot, BLANK, handle, STAGED or LIVE, undamaged; past them the engine is BUSY and the scan
begins. -/
def reqProgramBaseline (tag slot : Byte) (handle : RawHandle) (key plateau : Word) (s : State) : State :=
  match streamOf slot with
  | none => s.respond tag 0x50 .range []
  | some n =>
    if s.slots[n].reading ≠ .blank then s.respond tag 0x50 .slotUsed []
    else match s.checkHandle handle with
      | .error r => s.respond tag 0x50 r []
      | .ok i =>
        if s.entries[i].state ≠ .staged ∧ s.entries[i].state ≠ .live then s.respond tag 0x50 .state []
        else if s.entries[i].damaged then s.respond tag 0x50 .damaged []
        else s.startJob tag 0x50 (.program n i key plateau .scan)

/-- PROGRAM_BASELINE (R154). -/
def execProgramBaseline (tag slot : Byte) (handle : RawHandle) (key plateau : Word) (s : State) :
    Host.Outcome State Fault Refusal :=
  .next (s.onRequest 10 (reqProgramBaseline tag slot handle key plateau))

/-- The channels of an entry's grid. -/
def Entry.channels (e : Entry) : Nat :=
  match e.profile with
  | some p => p.geometry.channels
  | none => 0

/-- The end of the scan (R155): PARITY, CHECK_MISMATCH, RANGE, or the slot marked PROGRAMMING and the write begun. -/
def endScan (tag : Byte) (n : Stream) (i : EntryIndex) (key plateau : Word) (s : State) : State :=
  match s.readAll i with
  | .error j => (s.reportDamage i).endJob tag 0x50 .parity (wordOfNat j)
  | .ok ks =>
    if s.entries[i].checkValue ≠ some (crc16 ks) then
      (s.reportDamage i).endJob tag 0x50 .checkMismatch
        (wordBytes (crc16 ks) ++ wordBytes (s.entries[i].checkValue.getD 0))
    else match excessSpan s.entries[i].channels ks with
      | some (c, span) => s.endJob tag 0x50 .range ([byteOf c] ++ wordOfNat span)
      | none =>
        { s.setSlot n { state := .programming, fields := none } with
            engine := .busy tag (.program n i key plateau (.write (basesOf s.entries[i].channels ks))) }

/-- SCAN_END (R155); nothing where no scan runs (log entry 7). -/
def execScanEnd (s : State) : Host.Outcome State Fault Refusal :=
  match s.engine with
  | .busy tag (.program n i key plateau .scan) => .next (endScan tag n i key plateau s)
  | _ => .next s

/-- The slot left by a programming that spoils it: SPOILED, or still PROGRAMMING where that write does not take (R152). -/
def Slot.spoil (recorded : Bool) : Slot :=
  if recorded then { state := .spoiled, fields := none } else { state := .programming, fields := none }

/-- The fields the programmer writes (R156). -/
def slotFieldsOf (p : Profile) (check : Word) (key plateau : Word) (bases ks : List Knot) : SlotFields :=
  { columns := byteOf p.geometry.columns, rows := byteOf p.geometry.rows, channels := byteOf p.geometry.channels,
    format := p.format.byte, key := key, plateau := plateau, label := p.label, bases := bases,
    deltas := deltasOf p.geometry.channels bases ks, crc := check }

/-- The end of the write stage (R156): every field written and the verify begun, or a parity fault on the second read,
which spoils the slot. -/
def endWrite (recorded : Bool) (tag : Byte) (n : Stream) (i : EntryIndex) (key plateau : Word) (bases : List Knot)
    (s : State) : State :=
  match s.readAll i with
  | .error j =>
    ((s.reportDamage i).setSlot n (Slot.spoil recorded)).endJob tag 0x50 .parity (wordOfNat j)
  | .ok ks =>
    { s.setSlot n
        { state := .programming
          fields := s.entries[i].profile.map
            (fun p => slotFieldsOf p (s.entries[i].checkValue.getD 0) key plateau bases ks) } with
        engine := .busy tag (.program n i key plateau (.verify bases)) }

/-- PROGRAM_WRITE_END (R156); nothing where no write stage runs (log entry 7). -/
def execProgramWriteEnd (recorded : Bool) (s : State) : Host.Outcome State Fault Refusal :=
  match s.engine with
  | .busy tag (.program n i key plateau (.write bases)) => .next (endWrite recorded tag n i key plateau bases s)
  | _ => .next s

/-- The fields read back decompress to knots whose CRC-16 is the stored CRC (R156). -/
def SlotFields.verifies (f : SlotFields) : Bool :=
  match geometryOf f.columns f.rows f.channels with
  | some g => crc16 (f.knots g) = f.crc
  | none => false

/-- The fields of a slot verify. -/
def Slot.verifies (x : Slot) : Bool :=
  match x.fields with
  | some f => f.verifies
  | none => false

/-- The end of the slot verify (R156): PROGRAMMED with OK, or SPOILED with PROGRAM_FAILED. That any failed write of a field
fails the verify, of a field that the CRC does not cover too, is the model's choice (log entry 35). -/
def endProgram (writesTook recorded : Bool) (tag : Byte) (n : Stream) (bases : List Knot) (s : State) : State :=
  if writesTook && recorded && s.slots[n].verifies then
    (s.setSlot n { s.slots[n] with state := .programmed }).endJob tag 0x50 .ok
      ([streamByte n] ++ (match s.slots[n].fields with
        | some f => wordBytes f.crc
        | none => []) ++ bases.flatMap knotBytes)
  else (s.setSlot n (Slot.spoil recorded)).endJob tag 0x50 .programFailed []

/-- PROGRAM_VERIFY_END (R156); nothing where no slot verify runs (log entry 7). -/
def execProgramVerifyEnd (writesTook recorded : Bool) (s : State) : Host.Outcome State Fault Refusal :=
  match s.engine with
  | .busy tag (.program n _ _ _ (.verify bases)) => .next (endProgram writesTook recorded tag n bases s)
  | _ => .next s

/-! ### RESTORE_BASELINE (R158, R159) -/

/-- The profile an entry loaded from slot n has (R10). -/
def slotProfile (n : Stream) (f : SlotFields) (g : Geometry) (fmt : Format) : Profile :=
  { origin := .baseline n, geometry := g, format := fmt, label := f.label }

/-- RESTORE_BASELINE (R158): slot, PROGRAMMED, the allocation; then the engine is BUSY. -/
def reqRestoreBaseline (tag slot : Byte) (s : State) : State :=
  match streamOf slot with
  | none => s.respond tag 0x51 .range []
  | some n =>
    match s.slots[n].reading with
    | .blank => s.respond tag 0x51 .slotEmpty []
    | .spoiled _ => s.respond tag 0x51 .slotSpoiled []
    | .programmed f g fmt =>
      match s.allocate (slotProfile n f g fmt) with
      | .error r => s.respond tag 0x51 r []
      | .ok (i, s') => s'.startJob tag 0x51 (.restore n i)

/-- RESTORE_BASELINE (R158). -/
def execRestoreBaseline (tag slot : Byte) (s : State) : Host.Outcome State Fault Refusal :=
  .next (s.onRequest 4 (reqRestoreBaseline tag slot))

/-- The slot's knots written over the unity fill of entry i with agreeing parity (R159), then the stored faults that
strike before the check has read the words. -/
def State.loadKnots (s : State) (i : EntryIndex) (f : SlotFields) (g : Geometry) (upsets : List LoadUpset) : State :=
  (s.writeKnots i 0 (f.knots g)).upsetKnots i upsets

/-- The end of a restore (R159, R10): STAGED with the stored CRC as check value, or freed. -/
def endRestore (upsets : List LoadUpset) (tag : Byte) (n : Stream) (i : EntryIndex) (s : State) : State :=
  match s.slots[n].reading with
  | .programmed f g _ =>
    let s := s.loadKnots i f g upsets
    match s.checkEntry i with
    | .fault j => (s.freeEntry i).endJob tag 0x51 .parity (wordOfNat j)
    | .crc c =>
      if c = f.crc then
        (s.setEntry i { s.entries[i] with state := .staged, checkValue := some f.crc }).endJob tag 0x51 .ok
          ([byteOf i.val, s.entries[i].revision] ++ wordBytes f.key ++ wordBytes f.plateau)
      else (s.freeEntry i).endJob tag 0x51 .checkMismatch (wordBytes c)
  | _ => s

/-- RESTORE_COMPLETE (R159); nothing where no RESTORE_BASELINE runs (log entry 7). -/
def execRestoreComplete (upsets : List LoadUpset) (s : State) : Host.Outcome State Fault Refusal :=
  match s.engine with
  | .busy tag (.restore n i) => .next (endRestore upsets tag n i s)
  | _ => .next s

/-! ### QUERY_SLOT (R160) -/

/-- The data of QUERY_SLOT (R160; section 11.1). -/
def Slot.bytes (x : Slot) : List Byte :=
  match x.reading with
  | .blank => [0x00]
  | .spoiled .spoiled => [0x02]
  | .spoiled .programming => [0x03]
  | .spoiled .badGrid => [0x04]
  | .programmed f g fmt =>
    [0x01] ++ g.bytes ++ [fmt.byte] ++ wordBytes f.key ++ wordBytes f.plateau ++ wordBytes f.label
      ++ f.bases.flatMap knotBytes ++ wordBytes f.crc

/-- QUERY_SLOT (R160). -/
def reqQuerySlot (tag slot : Byte) (s : State) : State :=
  match streamOf slot with
  | none => s.respond tag 0x52 .range []
  | some n => s.respond tag 0x52 .ok s.slots[n].bytes

/-- QUERY_SLOT (R160). -/
def execQuerySlot (tag slot : Byte) (s : State) : Host.Outcome State Fault Refusal :=
  .next (s.onRequest 4 (reqQuerySlot tag slot))

/-! ### Device reset and the start-up load (R161 to R163) -/

/-- The load of slot n begins (R10, R161, R162): a PROGRAMMED slot's entry is allocated. -/
def State.beginLoad (s : State) (n : Stream) : State :=
  match s.slots[n].reading with
  | .programmed f g fmt =>
    match s.allocate (slotProfile n f g fmt) with
    | .ok (i, s') => { s' with engine := .starting n (some i) }
    | .error _ => { s with engine := .starting n none }
  | _ => { s with engine := .starting n none }

/-- How many bytes of messages port p's outgoing lane has sent. -/
def sentBy (c : LaneCounts) (p : Stream) : Nat :=
  match p with
  | 0 => c.lp0
  | 1 => c.lp1
  | 2 => c.lp2
  | 3 => c.lp3

/-- A port after a device reset, with the message that the reset cut off on its outgoing lane (R114). -/
def Port.afterReset (x : Port) (sent : Nat) : Port := { Port.reset with cut := cutOff x.out sent }

/-- Every port after a device reset (R114, R117). -/
def State.resetPorts (s : State) (sent : LaneCounts) : Vector Port 4 :=
  Vector.ofFn (fun p : Stream => s.ports[p].afterReset (sentBy sent p))

/-- DEVICE_RESET (R161): every block is reset, the messages being sent are cut off (R114), the slots are kept, the line
levels and straps are sampled (R92, R164), and the start-up load begins with slot 0. -/
def execDeviceReset (moment : ResetMoment) (straps : BitVec 2) (s : State) : Host.Outcome State Fault Refusal :=
  .next (({ State.afterReset moment.levels straps s.slots s.pending with ports := s.resetPorts moment.sent }).beginLoad 0)

/-- View n CONFIGURED and left empty, with BASELINE_BAD(n) raised (R162). -/
def State.leaveEmpty (s : State) (n : Stream) (g : Geometry) (fmt : Format) : State :=
  (s.setView n { s.views[n] with config := some { geometry := g, format := fmt }, anchors := [] }).raise (.baselineBad n)

/-- The good case of a slot's load, in one event (R10, R162): the entry LIVE with membership n and its check value, the
view CONFIGURED with the entry as sole anchor, the generation up by one. -/
def State.attachBaseline (s : State) (n : Stream) (i : EntryIndex) (f : SlotFields) (g : Geometry) (fmt : Format) :
    State :=
  let s := s.setEntry i { s.entries[i] with state := .live, checkValue := some f.crc, membership := streamBit n }
  s.setView n
    { config := some { geometry := g, format := fmt }
      anchors := [{ handle := { index := i, revision := s.entries[i].revision }, key := f.key, plateau := f.plateau }]
      generation := s.views[n].generation + 1 }

/-- The load of slot n completes (R162). BASELINE_BAD is raised here, as R162 gives, though R179 calls the alert set empty
until STARTED: the model follows R162, R163 and R176 (log entry 32). -/
def State.completeLoad (s : State) (n : Stream) (entry : Option EntryIndex) (upsets : List LoadUpset) : State :=
  match s.slots[n].reading with
  | .blank => s
  | .spoiled _ => s.raise (.baselineBad n)
  | .programmed f g fmt =>
    match entry with
    | none => s.leaveEmpty n g fmt
    | some i =>
      let s := s.loadKnots i f g upsets
      match s.checkEntry i with
      | .crc c => if c = f.crc then s.attachBaseline n i f g fmt else (s.freeEntry i).leaveEmpty n g fmt
      | .fault _ => (s.freeEntry i).leaveEmpty n g fmt

/-- The end of the start-up load (R163, R118): STARTED is raised, the engine becomes IDLE, every port becomes ACTIVE and
makes NOTICE(READY). -/
def State.started (s : State) : State :=
  let s := { s.raise .started with engine := .idle }
  allStreams.foldl (fun s p => s.modPort p (fun x => { x with active := true, out := x.out ++ [.notice .ready] })) s

/-- SLOT_LOAD (R162, R163): the load of the slot in progress completes, and the next slot's begins or the start-up ends;
nothing where that slot is not being loaded (log entry 7). -/
def execSlotLoad (slot : Stream) (upsets : List LoadUpset) (s : State) : Host.Outcome State Fault Refusal :=
  match s.engine with
  | .starting n entry =>
    if slot = n then
      if n = 3 then .next (s.completeLoad n entry upsets).started
      else .next ((s.completeLoad n entry upsets).beginLoad (n + 1))
    else .next s
  | _ => .next s

end Sys2Proof.Machine
end

