-- ==== Sys2Proof/Machine/Management.lean ====
section
/-! DEFINITION. The Management Port: alert and group settings, the windows, malformed writes, ABORT, group writes
(chapter 10). -/

namespace Sys2Proof.Machine

/-! ### SET_GROUP, SET_ALERTS, READ_ALERTS -/

/-- A group address SET_GROUP accepts: 0x08-0x77, not one of 0x2C-0x2F (R172). -/
def groupAddressOk (a : Byte) : Bool :=
  0x08 ≤ a.toNat && a.toNat ≤ 0x77 && !(0x2C ≤ a.toNat && a.toNat ≤ 0x2F)

/-- SET_GROUP (R172). -/
def reqSetGroup (tag address enable acknowledger : Byte) (s : State) : State :=
  match flagOf enable, flagOf acknowledger with
  | some e, some k =>
    if groupAddressOk address then
      { s with groupAddress := BitVec.ofNat 7 address.toNat, groupEnabled := e, acknowledger := k }.respond
        tag 0x60 .ok [address, enable, acknowledger]
    else s.respond tag 0x60 .range []
  | _, _ => s.respond tag 0x60 .range []

/-- SET_GROUP (R172). -/
def execSetGroup (tag address enable acknowledger : Byte) (s : State) : Host.Outcome State Fault Refusal :=
  .next (s.onRequest 6 (reqSetGroup tag address enable acknowledger))

/-- SET_ALERTS (R177): a mask with any of bits 4-7 set (R181) or a watermark above 512 is RANGE. -/
def reqSetAlerts (tag mask : Byte) (watermark : Word) (s : State) : State :=
  match maskOf mask with
  | none => s.respond tag 0x61 .range []
  | some m =>
    if 512 < watermark.toNat then s.respond tag 0x61 .range []
    else { s with appliedMask := m, watermark := watermark.toNat }.respond tag 0x61 .ok ([mask] ++ wordBytes watermark)

/-- SET_ALERTS (R177). -/
def execSetAlerts (tag mask : Byte) (watermark : Word) (s : State) : Host.Outcome State Fault Refusal :=
  .next (s.onRequest 6 (reqSetAlerts tag mask watermark))

/-- READ_ALERTS (R178): up to 16 conditions in kind order are returned and removed. -/
def reqReadAlerts (tag : Byte) (s : State) : State :=
  { s with alerts := s.alerts.drop 16 }.respond tag 0x62 .ok
    ([byteOf (s.alerts.take 16).length] ++ (s.alerts.take 16).flatMap Alert.bytes ++ [byteOf (s.alerts.drop 16).length])

/-- READ_ALERTS (R178). -/
def execReadAlerts (tag : Byte) (s : State) : Host.Outcome State Fault Refusal :=
  .next (s.onRequest 3 (reqReadAlerts tag))

/-! ### Requests as messages (R166, R180) -/

/-- A request of the right length, carried out as its chapter gives. -/
def runRequest (tag : Byte) (r : Request) (s : State) : State :=
  match r with
  | .create c ro ch f l => reqCreate tag c ro ch f l s
  | .delete h => reqDelete tag h s
  | .queryProfile h => reqQueryProfile tag h s
  | .queryStore => reqQueryStore tag s
  | .writeKnots h first count ks => reqWriteKnots tag h first count ks s
  | .readKnots h first count => reqReadKnots tag h first count s
  | .finish h crc => reqFinish tag h crc s
  | .verify h => reqVerify tag h s
  | .configureView n c ro ch f => reqConfigureView tag n c ro ch f s
  | .queryView n => reqQueryView tag n s
  | .attach n h k p => reqAttach tag n h k p s
  | .detach n h => reqDetach tag n h s
  | .move n h k p => reqMove tag n h k p s
  | .commit m kind n => reqCommit tag m kind n s
  | .withdraw m => reqWithdraw tag m s
  | .discard m => reqDiscard tag m s
  | .queryEdits n => reqQueryEdits tag n s
  | .point m => reqPoint tag m s
  | .setPoints n src pol pre => reqSetPoints tag n src pol pre s
  | .clearCounts m => reqClearCounts tag m s
  | .queryPoints => reqQueryPoints tag s
  | .setPort p e l => reqSetPort tag p e l s
  | .queryPort p => reqQueryPort tag p s
  | .programBaseline n h k p => reqProgramBaseline tag n h k p s
  | .restoreBaseline n => reqRestoreBaseline tag n s
  | .querySlot n => reqQuerySlot tag n s
  | .setGroup a e k => reqSetGroup tag a e k s
  | .setAlerts m w => reqSetAlerts tag m w s
  | .readAlerts => reqReadAlerts tag s

/-- A judged request message (R166): FORMAT and UNKNOWN_REQUEST answers echo the bytes received. -/
def State.answerJudged (s : State) (run : Byte → Request → State → State) : Judged → State
  | .format code tag => s.respond tag code .format []
  | .unknown code tag => s.respond tag code .unknownRequest []
  | .taken tag r => run tag r s

/-- A write of selector 0x01 and these bytes to the primary address (R165, R166, R169). -/
def State.writeRequest (s : State) (message : List Byte) : State :=
  match message with
  | [] => s.selectWindow .request [true]
  | _ :: _ => s.onMessage message (fun s => s.answerJudged runRequest (judgeRequest message))

/-- What an ABORT does (R171): it ends a running FINISH, VERIFY or RESTORE_BASELINE with ABORTED, and is ignored
otherwise. A restore's entry is freed (R159). -/
def State.takeAbort (s : State) : State :=
  match s.engine with
  | .busy tag (.finish _ _) => s.endJob tag 0x16 .aborted []
  | .busy tag (.verify _) => s.endJob tag 0x17 .aborted []
  | .busy tag (.restore _ i) => (s.freeEntry i).endJob tag 0x51 .aborted []
  | .busy _ (.program _ _ _ _ _) => s
  | .idle => s
  | .starting _ _ => s

/-- A write to the primary address, its bytes in order (R165): the first selects a window. That the bytes after an
unassigned selector are NACKed with it is the model's choice (log entry 33). -/
def State.primaryWrite (s : State) : List Byte → State
  | [] => s
  | sel :: rest =>
    if sel = 0x01 then s.writeRequest rest
    else if sel = 0x02 then s.selectWindow .response (true :: List.replicate rest.length false)
    else if sel = 0x03 then
      match rest with
      | [] => s.selectWindow .abort [true]
      | _ :: extra => (s.selectWindow .abort (true :: true :: List.replicate extra.length false)).takeAbort
    else if sel = 0x04 then s.selectWindow .status (true :: List.replicate rest.length false)
    else { s with acks := List.replicate (rest.length + 1) false }

/-- UNKNOWN_REQUEST (R166): the message is judged as every request write is (log entry 8). -/
def execUnknownRequest (message : List Byte) (s : State) : Host.Outcome State Fault Refusal :=
  .next (s.writeRequest message)

/-- REQUEST_FORMAT_ERROR (R180): the message is judged as every request write is (log entry 8). -/
def execRequestFormatError (message : List Byte) (s : State) : Host.Outcome State Fault Refusal :=
  .next (s.writeRequest message)

/-- BUSY_NACK (R169): a request write; an engine that is BUSY or STARTING NACKs it (log entry 8). -/
def execBusyNack (message : List Byte) (s : State) : Host.Outcome State Fault Refusal :=
  .next (s.writeRequest message)

/-- WINDOW_SELECT (R165). -/
def execWindowSelect (selector : Byte) (extra : List Byte) (s : State) : Host.Outcome State Fault Refusal :=
  .next (s.primaryWrite (selector :: extra))

/-- ABORT (R171). -/
def execAbort (value : Byte) (extra : List Byte) (s : State) : Host.Outcome State Fault Refusal :=
  .next (s.primaryWrite (0x03 :: value :: extra))

/-! ### Group writes (R173 to R175) -/

/-- A request executed on the group address, or GROUP_REFUSED (R174). -/
def runGroupRequest (tag : Byte) (r : Request) (s : State) : State :=
  match r with
  | .commit m kind n => reqCommit tag m kind n s
  | .withdraw m => reqWithdraw tag m s
  | .discard m => reqDiscard tag m s
  | .point m => reqPoint tag m s
  | .clearCounts m => reqClearCounts tag m s
  | _ => s.respond tag r.code .groupRefused []

/-- The engine is IDLE. -/
def Engine.isIdle : Engine → Bool
  | .idle => true
  | .starting _ _ => false
  | .busy _ _ => false

/-- Another part acknowledges the group address and the selector (R173, R175). -/
def othersAckSelector : OtherAcknowledgers → Bool
  | .absent => false
  | .busy => true
  | .ready => true

/-- Another part acknowledges the first request byte (R173, R175). -/
def othersAckRequest : OtherAcknowledgers → Bool
  | .absent => false
  | .busy => false
  | .ready => true

/-- The acknowledge bits this part drives for the bytes of a group write, selector first (R173): an acknowledger as at
its primary address, with every selector but 0x01 NACKed; a part that is not the acknowledger drives none. That the
bytes after a NACKed selector are NACKed with it is the model's choice (log entry 33). -/
def State.groupAcks (s : State) (bytes : List Byte) : List Bool :=
  match bytes with
  | [] => []
  | sel :: message =>
    if s.acknowledger && sel = 0x01 then
      if s.engine.isIdle then requestAcks message else true :: List.replicate message.length false
    else List.replicate bytes.length false

/-- The close of a group write whose first request byte was acknowledged on the bus (R174): an IDLE part judges and
executes it, or answers GROUP_REFUSED; any other drops it and raises GROUP_MISSED. -/
def State.closeGroupWrite (s : State) (message : List Byte) : State :=
  match s.engine with
  | .idle => s.answerJudged runGroupRequest (judgeRequest message)
  | .starting _ _ => s.raise .groupMissed
  | .busy _ _ => s.raise .groupMissed

/-- GROUP_WRITE (R172 to R175). A part that is not group-enabled, or another address, ignores it. A write whose address,
selector or first request byte no part acknowledges is discarded. That the settings of a SET_GROUP govern the write that
follows it directly, be it after a repeated START, is the model's choice (log entry 36). -/
def execGroupWrite (address : BitVec 7) (others : OtherAcknowledgers) (bytes : List Byte) (s : State) :
    Host.Outcome State Fault Refusal :=
  if s.groupEnabled && s.groupAddress = address then
    let s' := { s with acks := s.groupAcks bytes }
    match bytes with
    | [] => .next s'
    | sel :: message =>
      if (s.acknowledger || othersAckSelector others) && sel = 0x01 && message ≠ []
          && ((s.acknowledger && s.engine.isIdle) || othersAckRequest others) then
        .next (s'.closeGroupWrite message)
      else .next s'
  else .next s

end Sys2Proof.Machine
end

