-- ==== Sys2Proof/Machine/Dispatch.lean ====
section
/-! DEFINITION. The meaning of every command: one arm a row of spec/opcode_table.json. -/

namespace Sys2Proof.Machine

def exec (i : Instr) (s : State) : Host.Outcome State Fault Refusal :=
  match i with
  | .create tag columns rows channels format label => Sys2Proof.Machine.execCreate tag columns rows channels format label s
  | .delete tag handle => Sys2Proof.Machine.execDelete tag handle s
  | .queryProfile tag handle => Sys2Proof.Machine.execQueryProfile tag handle s
  | .queryStore tag => Sys2Proof.Machine.execQueryStore tag s
  | .writeKnots tag handle first count knots => Sys2Proof.Machine.execWriteKnots tag handle first count knots s
  | .readKnots tag handle first count => Sys2Proof.Machine.execReadKnots tag handle first count s
  | .finish tag handle crc => Sys2Proof.Machine.execFinish tag handle crc s
  | .finishComplete => Sys2Proof.Machine.execFinishComplete s
  | .verify tag handle => Sys2Proof.Machine.execVerify tag handle s
  | .verifyComplete => Sys2Proof.Machine.execVerifyComplete s
  | .configureView tag stream columns rows channels format => Sys2Proof.Machine.execConfigureView tag stream columns rows channels format s
  | .queryView tag stream => Sys2Proof.Machine.execQueryView tag stream s
  | .attach tag stream handle key plateau => Sys2Proof.Machine.execAttach tag stream handle key plateau s
  | .detach tag stream handle => Sys2Proof.Machine.execDetach tag stream handle s
  | .move tag stream handle key plateau => Sys2Proof.Machine.execMove tag stream handle key plateau s
  | .commit tag mask targetKind count => Sys2Proof.Machine.execCommit tag mask targetKind count s
  | .withdraw tag mask => Sys2Proof.Machine.execWithdraw tag mask s
  | .discard tag mask => Sys2Proof.Machine.execDiscard tag mask s
  | .queryEdits tag stream => Sys2Proof.Machine.execQueryEdits tag stream s
  | .point tag mask => Sys2Proof.Machine.execPoint tag mask s
  | .setPoints tag stream source polarity prescale => Sys2Proof.Machine.execSetPoints tag stream source polarity prescale s
  | .clearCounts tag mask => Sys2Proof.Machine.execClearCounts tag mask s
  | .queryPoints tag => Sys2Proof.Machine.execQueryPoints tag s
  | .setPort tag port enable stallLimit => Sys2Proof.Machine.execSetPort tag port enable stallLimit s
  | .queryPort tag port => Sys2Proof.Machine.execQueryPort tag port s
  | .programBaseline tag slot handle key plateau => Sys2Proof.Machine.execProgramBaseline tag slot handle key plateau s
  | .scanEnd => Sys2Proof.Machine.execScanEnd s
  | .programWriteEnd recorded => Sys2Proof.Machine.execProgramWriteEnd recorded s
  | .programVerifyEnd writesTook recorded => Sys2Proof.Machine.execProgramVerifyEnd writesTook recorded s
  | .restoreBaseline tag slot => Sys2Proof.Machine.execRestoreBaseline tag slot s
  | .restoreComplete upsets => Sys2Proof.Machine.execRestoreComplete upsets s
  | .querySlot tag slot => Sys2Proof.Machine.execQuerySlot tag slot s
  | .setGroup tag address enable acknowledger => Sys2Proof.Machine.execSetGroup tag address enable acknowledger s
  | .setAlerts tag mask watermark => Sys2Proof.Machine.execSetAlerts tag mask watermark s
  | .readAlerts tag => Sys2Proof.Machine.execReadAlerts tag s
  | .unknownRequest message => Sys2Proof.Machine.execUnknownRequest message s
  | .requestFormatError message => Sys2Proof.Machine.execRequestFormatError message s
  | .busyNack message => Sys2Proof.Machine.execBusyNack message s
  | .windowSelect selector extra => Sys2Proof.Machine.execWindowSelect selector extra s
  | .abort value extra => Sys2Proof.Machine.execAbort value extra s
  | .groupWrite address others bytes => Sys2Proof.Machine.execGroupWrite address others bytes s
  | .boundaryEdge line level => Sys2Proof.Machine.execBoundaryEdge line level s
  | .lookup port tag key firstRow rowCount => Sys2Proof.Machine.execLookup port tag key firstRow rowCount s
  | .credit port n => Sys2Proof.Machine.execCredit port n s
  | .cancel port tag => Sys2Proof.Machine.execCancel port tag s
  | .linkReset port => Sys2Proof.Machine.execLinkReset port s
  | .badMessage port bytes => Sys2Proof.Machine.execBadMessage port bytes s
  | .linkMessageHeld port message => Sys2Proof.Machine.execLinkMessageHeld port message s
  | .grant => Sys2Proof.Machine.execGrant s
  | .handover => Sys2Proof.Machine.execHandover s
  | .faultReport => Sys2Proof.Machine.execFaultReport s
  | .stallExpiry port => Sys2Proof.Machine.execStallExpiry port s
  | .deviceReset moment straps => Sys2Proof.Machine.execDeviceReset moment straps s
  | .slotLoad slot upsets => Sys2Proof.Machine.execSlotLoad slot upsets s
  | .parityFault page offset upset => Sys2Proof.Machine.execParityFault page offset upset s
  | .idleByte port => Sys2Proof.Machine.execIdleByte port s

end Sys2Proof.Machine
end

