-- ==== Sys2Proof/Machine/Tick.lean ====
section
/-! DEFINITION. The passing of time: the stall timers (R128, R129), the only behaviour stated in units of time. -/

namespace Sys2Proof.Machine

/-- The timer has run for its recorded limit (R128: 25,000 REFCLK periods to the millisecond). -/
def Timer.due : Timer → Bool
  | .running elapsed limit => limit * Config.refclkPerMs ≤ elapsed
  | .stopped => false

/-- One REFCLK period more on a running timer. -/
def Timer.advance : Timer → Timer
  | .running elapsed limit => .running (elapsed + 1) limit
  | .stopped => .stopped

/-- One REFCLK period more on every port's timer. -/
def State.advanceTimers (s : State) : State :=
  allStreams.foldl (fun s p => s.modPort p (fun x => { x with timer := x.timer.advance })) s

/-- The lowest port whose timer is due. -/
def State.duePort (s : State) : Option Stream := allStreams.find? (fun p => s.ports[p].timer.due)

/-- What an idle step does (log entry 13): the lowest port whose timer is due expires (R129); where none is due, one REFCLK
period passes. -/
def State.tick (s : State) : State :=
  match s.duePort with
  | some p => s.expire p
  | none => s.advanceTimers

end Sys2Proof.Machine
end

