-- ==== Sys2Proof/Machine/Step.lean ====
section
/-! DEFINITION. One step: the command at the front of the queue, or one REFCLK period on an empty queue. -/

namespace Sys2Proof.Machine

/-- One step (95_what_each_step_holds.md: each command or event is taken whole). The command at the front of the queue
is carried out on the state with the queue's rest; on an empty queue one REFCLK period passes (log entry 13). -/
def step (s : State) : Host.Outcome State Fault Refusal :=
  match s.pending with
  | [] => .next s.tick
  | c :: rest => exec c { s with pending := rest }

/-- The command that a word spells put at the front of the queue; the table's rows have no bits, so no word spells one
(log entry 24). -/
def State.withFetchWord (s : State) (nbits w : Nat) : State :=
  match decodeTableWord nbits w with
  | some c => { s with pending := c :: s.pending }
  | none => s

end Sys2Proof.Machine
end

