-- ==== Sys2Proof/Safety.lean ====
section
/-! DEFINITION. The laws of the device as predicates of a state: what every step keeps. -/

namespace Sys2Proof.Safety

open Sys2Proof.Machine

/-! ### Knot Memory and page accounting (R25, R26) -/

/-- Every page of the part, as the free list and the page lists hold them. -/
def pagesHeld (s : State) : List Nat := s.freePages ++ s.entries.toList.flatMap (fun e => e.pages)

/-- R26: the free list and the page lists hold each of the pages 0 to 511 once, and a FREE entry holds none. -/
def PagesAccounted (s : State) : Prop :=
  (pagesHeld s).Perm (List.range 512) ∧ ∀ i : EntryIndex, s.entries[i].state = .free → s.entries[i].pages = []

/-- The Knot Memory is in canonical form, with no address beyond its 32,768 words (R25). -/
def MemoryCanonical (s : State) : Prop := s.memory.wf = true ∧ ∀ c ∈ s.memory, c.1 < 32768

/-- The law of the Knot Memory and its pages. -/
def StoreLaw (s : State) : Prop := MemoryCanonical s ∧ PagesAccounted s

/-! ### The alert set (R176) -/

/-- R176: each condition at most once, held in kind order and ascending subject. -/
def AlertLaw (s : State) : Prop := s.alerts.Pairwise (fun a b => a.rank < b.rank)

/-! ### Point records and armed lists (R91, R66, R79) -/

/-- The values R91 allows a point record. -/
def PointRecordOk (r : PointRecord) : Prop := 1 ≤ r.prescale ∧ r.prescale ≤ 16 ∧ r.edgeCount < r.prescale

/-- R66 and R79 for one stream: at most 8 edits; while ARMED at least one, and the target 1 to 32767 points ahead. -/
def ArmedLawOf (s : State) (n : Stream) : Prop :=
  s.lists[n].edits.length ≤ 8 ∧
    ∀ T, s.lists[n].target = some T →
      s.lists[n].edits ≠ [] ∧ 1 ≤ (T - s.points[n].counter).toNat ∧ (T - s.points[n].counter).toNat ≤ 32767

/-- The law of the Edit Unit and the Point Unit. -/
def ArmedLaw (s : State) : Prop := ∀ n : Stream, ArmedLawOf s n ∧ PointRecordOk s.points[n]

/-! ### Lookup ports and the datapath (R117 to R136) -/

/-- The engine is STARTING. -/
def isStarting (s : State) : Bool :=
  match s.engine with
  | .starting _ _ => true
  | .idle => false
  | .busy _ _ => false

/-- A waiting lookup has been granted nothing, is neither cancelling nor resetting, and has made no ROW (R122). -/
def WaitingOk (l : Lookup) : Prop :=
  l.granted = none ∧ l.cancelling = false ∧ l.resetting = false ∧ l.rowsSent = 0 ∧ l.rowsOwed ≠ []

/-- A head with no granted row is owed rows and is neither cancelling nor resetting; one that is cancelling or resetting
is owed none (R125, R126, R131, R133). -/
def HeadOk (l : Lookup) : Prop :=
  (l.granted = none → l.rowsOwed ≠ [] ∧ l.cancelling = false ∧ l.resetting = false) ∧
    (l.cancelling = true → l.rowsOwed = []) ∧ (l.resetting = true → l.rowsOwed = [])

/-- The stall timer of a port with this head runs only while the head is owed rows, has none granted, is not cancelling
and the port holds no credit, for a limit that is not 0 (R128). -/
def TimerOk (x : Port) : Prop :=
  match x.timer with
  | .stopped => True
  | .running _ limit => limit ≠ 0 ∧ x.credits = 0 ∧
      ∃ h rest, x.queue = h :: rest ∧ h.rowsOwed ≠ [] ∧ h.granted = none ∧ h.cancelling = false

/-- The law of one port record (R117, R118, R122, R123, R125, R133). -/
def PortOk (x : Port) : Prop :=
  x.queue.length ≤ 2 ∧ (x.queue.map (fun l => l.tag)).Nodup ∧ x.credits ≤ 4 ∧ x.held.length ≤ 8 ∧ TimerOk x ∧
    (∀ l ∈ x.queue.head?, HeadOk l ∧ (l.granted.isSome → l.resetting = false → 1 ≤ x.credits) ∧
      (l.resetting = true → x.queue.length = 1 ∧ x.credits = 0)) ∧
    (∀ l ∈ x.queue.tail, WaitingOk l) ∧ (x.held ≠ [] → x.resetting = true) ∧
    (x.active = false → x.queue = [] ∧ x.credits = 0 ∧ x.held = [])

/-- R136: the row in production is the granted row of its port's head, and no other head has a granted row. -/
def DatapathOk (s : State) : Prop :=
  ∀ p : Stream, ∀ l ∈ s.ports[p].queue.head?, ∀ r,
    l.granted = some r ↔ s.datapath = some { port := p, tag := l.tag, row := r }

/-- R136: a row in production is the granted row of the head of its port. -/
def DatapathHasHead (s : State) : Prop :=
  ∀ d, s.datapath = some d →
    ∃ h rest, s.ports[d.port].queue = h :: rest ∧ h.tag = d.tag ∧ h.granted = some d.row

/-- The law of the lookup ports and the Surface Engine; ports are OFFLINE exactly while the engine is STARTING (R118,
R163). -/
def ServingLaw (s : State) : Prop :=
  (∀ p : Stream, PortOk s.ports[p] ∧ s.ports[p].active = !isStarting s) ∧ DatapathOk s ∧ DatapathHasHead s

/-! ### Entries, views, lists (R1, R2, R16, R19, R55, R65) -/

/-- The ranges of R1 and R50 for a grid. -/
abbrev GeometryOk (g : Geometry) : Prop :=
  4 ≤ g.columns ∧ g.columns ≤ 16 ∧ 3 ≤ g.rows ∧ g.rows ≤ 12 ∧ (g.channels = 1 ∨ g.channels = 4)

/-- An allocated entry has a grid in range and the pages of that grid (R1). -/
def AllocatedOk (e : Entry) : Prop :=
  ∃ p, e.profile = some p ∧ GeometryOk p.geometry ∧ e.pages.length = p.geometry.pageCount

/-- The table of R2, row by row. -/
def EntryOk (e : Entry) : Prop :=
  match e.state with
  | .free => e = Entry.freed e.revision
  | .loading => AllocatedOk e ∧ e.checkValue = none ∧ e.damaged = false ∧ e.membership = 0 ∧ e.pendingRefs = 0 ∧ e.lookupRefs = 0
  | .staged => AllocatedOk e ∧ e.checkValue.isSome ∧ e.membership = 0
  | .live => AllocatedOk e ∧ e.checkValue.isSome ∧ e.membership ≠ 0
  | .draining => AllocatedOk e ∧ e.checkValue.isSome ∧ e.membership = 0 ∧ e.pendingRefs = 0 ∧ 1 ≤ e.lookupRefs

/-- The number of edits, in all four pending lists, that name entry i (R1, R19). -/
def editsNaming (s : State) (i : EntryIndex) : Nat :=
  (allStreams.map (fun n => s.lists[n].edits.countP (fun e => e.handle.index = i))).sum

/-- The number of accepted, unended lookups whose selection names entry i (R1, R19). -/
def lookupsNaming (s : State) (i : EntryIndex) : Nat :=
  (allStreams.map (fun p => s.ports[p].queue.countP (fun l => l.selection.sources.contains i))).sum

/-- R19: the two counts of every entry. -/
def ReferenceLaw (s : State) : Prop :=
  ∀ i : EntryIndex, s.entries[i].pendingRefs = editsNaming s i ∧ s.entries[i].lookupRefs = lookupsNaming s i

/-- A handle names the current allocation of its entry. -/
def HandleCurrent (s : State) (h : Handle) : Prop := s.entries[h.index].revision = h.revision

/-- R16 and R65: a view holds an anchor for an entry exactly when its stream is in the entry's membership, and every
anchor's handle is current (R53). -/
def MembershipLaw (s : State) : Prop :=
  ∀ n : Stream, (∀ i : EntryIndex, inMask s.entries[i].membership n = s.views[n].anchors.any (fun a => a.handle.index = i)) ∧
    ∀ a ∈ s.views[n].anchors, HandleCurrent s a.handle

/-- R50, R55, R68 and R79 for one stream: an UNCONFIGURED view holds nothing and its list is empty; a CONFIGURED one has a
grid in range and a valid layout, a valid projected layout while ARMED, and a projected view with no entry twice. -/
def LayoutLawOf (s : State) (n : Stream) : Prop :=
  match s.views[n].config with
  | none => s.views[n].anchors = [] ∧ s.lists[n] = EditList.reset
  | some c => GeometryOk c.geometry ∧ s.layoutFault c s.views[n].anchors = none ∧
      (s.lists[n].target.isSome → s.layoutFault c (s.projected n) = none) ∧ distinctEntries (s.projected n) = true

/-- The engine's work agrees with the entries and slots it works on (R38 to R43, R154 to R162). -/
def EngineLaw (s : State) : Prop :=
  match s.engine with
  | .idle => True
  | .busy _ (.finish i _) => s.entries[i].state = .loading
  | .busy _ (.verify i) => s.entries[i].state = .staged ∨ s.entries[i].state = .live
  | .busy _ (.restore n i) => s.entries[i].state = .loading ∧
      ∃ f g fmt, s.slots[n].reading = .programmed f g fmt ∧ s.entries[i].profile = some (slotProfile n f g fmt)
  | .busy _ (.program n i _ _ stage) => (s.entries[i].state = .staged ∨ s.entries[i].state = .live) ∧
      (stage = .scan → s.slots[n].state = .blank) ∧ (stage ≠ .scan → s.slots[n].state = .programming)
  | .starting n entry => (∀ m : Stream, s.lists[m] = EditList.reset) ∧
      (∀ m : Stream, n ≤ m → s.views[m].config = none) ∧
      ∀ i, entry = some i → s.entries[i].state = .loading ∧
        ∃ f g fmt, s.slots[n].reading = .programmed f g fmt ∧ s.entries[i].profile = some (slotProfile n f g fmt)

/-- A lookup keeps what it took (R62): the handles of its selection stay current, and no entry is named twice. -/
def LookupLaw (s : State) : Prop :=
  ∀ p : Stream, ∀ l ∈ s.ports[p].queue, l.selection.sources.Nodup ∧
    (∀ h ∈ l.selection.anchorA, HandleCurrent s h) ∧ ∀ h ∈ l.selection.anchorB, HandleCurrent s h

/-- The law of the records: entries, views, pending lists, and what refers to what. -/
def RecordLaw (s : State) : Prop :=
  (∀ i : EntryIndex, EntryOk s.entries[i]) ∧ ReferenceLaw s ∧ MembershipLaw s ∧ (∀ n : Stream, LayoutLawOf s n) ∧
    (∀ n : Stream, ∀ e ∈ s.lists[n].edits, HandleCurrent s e.handle) ∧ EngineLaw s ∧ LookupLaw s

/-! ### What one event does to a port's lookups, to an entry, to an armed list (R123, R21, R22, R85) -/

/-- The message is an END of an accepted lookup with this tag; an END that answers a refused LOOKUP has another status
(R121). -/
def isEndOf (tag : Byte) : OutMessage → Bool
  | .ended t .complete => t = tag
  | .ended t .degraded => t = tag
  | .ended t .fallback => t = tag
  | .ended t .cancelled => t = tag
  | .ended t .stalled => t = tag
  | .ended t .damaged => t = tag
  | _ => false

/-- The ENDs of accepted lookups with this tag that an event made; what it made after a RESET_DONE belongs to the port as
that reset left it (R133). -/
def endsMade (tag : Byte) (made : List OutMessage) : List OutMessage :=
  (made.takeWhile (fun m => m ≠ .notice .resetDone)).filter (isEndOf tag)

/-- R123, for one event that takes a port from x to y: each lookup of x stays in the queue and has no END, or leaves it with
exactly one, or is ended by a link RESET, then or when its granted row comes back, and has none; and an END is made for
a lookup of x alone. -/
def EndsOnce (x y : Port) : Prop :=
  ∃ made, y.out = x.out ++ made ∧
    (∀ l ∈ x.queue,
      (endsMade l.tag made = [] ∧ ∃ l' ∈ y.queue, l'.tag = l.tag ∧ l'.selection = l.selection) ∨
      ((endsMade l.tag made).length = 1 ∧ ∀ l' ∈ y.queue, l'.tag ≠ l.tag) ∨
      (endsMade l.tag made = [] ∧ y.resetting = true ∧ ∀ l' ∈ y.queue, l'.tag ≠ l.tag) ∨
      (endsMade l.tag made = [] ∧ OutMessage.notice .resetDone ∈ made)) ∧
    ∀ tag, endsMade tag made ≠ [] → ∃ l ∈ x.queue, l.tag = tag

/-- The bytes that a row brings to a port's incoming lane (R114). -/
def laneBytesOf : Instr → Option (Stream × List Byte)
  | .lookup p tag key first count => some (p, (LinkMessage.lookup tag key first count).encode)
  | .credit p n => some (p, (LinkMessage.credit n).encode)
  | .cancel p tag => some (p, (LinkMessage.cancel tag).encode)
  | .linkReset p => some (p, LinkMessage.reset.encode)
  | .badMessage p bytes => some (p, bytes)
  | .linkMessageHeld p m => some (p, m.encode)
  | .idleByte p => some (p, [0])
  | _ => none

/-- R4, R21, R22, for one event other than a device reset, from s to t, on entry i: the entry keeps its origin, grid,
format, label and pages, its check value once it has one, and its damaged flag once it is set, the flag being set only
with DAMAGED raised; or it is freed, keeping its revision; or it is allocated, its revision advanced. -/
def EntryKept (s t : State) (i : EntryIndex) : Prop :=
  (t.entries[i].revision = s.entries[i].revision ∧ t.entries[i].profile = s.entries[i].profile ∧
    t.entries[i].pages = s.entries[i].pages ∧
    (t.entries[i].checkValue = s.entries[i].checkValue ∨
      (s.entries[i].state = .loading ∧ s.entries[i].checkValue = none)) ∧
    (s.entries[i].damaged = true → t.entries[i].damaged = true) ∧
    (t.entries[i].damaged = true → s.entries[i].damaged = true ∨
      ((s.entries[i].state = .staged ∨ s.entries[i].state = .live ∨ s.entries[i].state = .draining) ∧
        Alert.damaged i ∈ t.alerts))) ∨
  t.entries[i] = Entry.freed s.entries[i].revision ∨
  ((s.entries[i].state = .free ∨ ∃ n us, s.pending.head? = some (.slotLoad n us)) ∧
    t.entries[i].revision = s.entries[i].revision + 1 ∧ t.entries[i].state = .loading ∧
    t.entries[i].checkValue = none ∧ t.entries[i].damaged = false)

/-- The row is a WITHDRAW that names stream n: the request's own row, or a write to the primary or to a group address whose
bytes spell it (R85, R166, R174). -/
def BringsWithdraw (c : Instr) (n : Stream) : Prop :=
  ∃ (tag m : Byte) (mask : StreamMask), m.toNat = mask.toNat ∧ inMask mask n = true ∧
    (c = .withdraw tag m ∨ ∃ message, judgeRequest message = .taken tag (.withdraw m) ∧
      (c = .windowSelect 0x01 message ∨ c = .busyNack message ∨ c = .unknownRequest message ∨
        c = .requestFormatError message ∨ ∃ a others, c = .groupWrite a others (0x01 :: message)))

/-! ### Words that the statements share -/

/-- s after it has taken a request message of `bytes` bytes, written to its primary address, and placed this response
(R165 to R168). -/
def answered (s : State) (bytes : Nat) (tag code : Byte) (r : Result) (d : List Byte) : State :=
  { s with window := some .request, acks := List.replicate (bytes + 1) true,
           response := { tag := tag, code := code, result := r, data := d } }

/-- s with the response of an ended long request and the engine IDLE (R167, R168). -/
def completed (s : State) (tag code : Byte) (r : Result) (d : List Byte) : State :=
  { s with response := { tag := tag, code := code, result := r, data := d }, engine := .idle }

/-- The handle passes the check of R5 and names entry i. -/
abbrev Names (s : State) (h : RawHandle) (i : EntryIndex) : Prop :=
  h.index.toNat = i.val ∧ s.entries[i].state ≠ .free ∧ s.entries[i].revision = h.revision

/-- The check of R5 refuses the handle with this result. -/
def HandleRefused (s : State) (h : RawHandle) (r : Result) : Prop :=
  (64 ≤ h.index.toNat ∧ r = .range) ∨
    (∃ i : EntryIndex, h.index.toNat = i.val ∧ (s.entries[i].state = .free ∨ s.entries[i].revision ≠ h.revision) ∧ r = .stale)

/-- The bytes of a grid in range, and the grid (R7, R57). -/
abbrev GridBytes (columns rows channels : Byte) (g : Geometry) : Prop :=
  GeometryOk g ∧ g.columns = columns.toNat ∧ g.rows = rows.toNat ∧ g.channels = channels.toNat

/-- A byte of a format, and the format (section 11.1). -/
abbrev FormatByte (b : Byte) (f : Format) : Prop := (b, f) ∈ [((0 : Byte), Format.uq1_11), (1, .uq2_10), (2, .uq3_9)]

/-- A byte that names stream, port, line or slot n. -/
abbrev StreamByte (b : Byte) (n : Stream) : Prop := b.toNat = n.val

/-- A mask byte with bits 4-7 clear, and the streams it names. -/
abbrev MaskByte (b : Byte) (m : StreamMask) : Prop := b.toNat = m.toNat

/-- Entry i freed (R13, R29). -/
def afterFreeing (s : State) (i : EntryIndex) : State :=
  { s with freePages := s.freePages ++ s.entries[i].pages
           entries := s.entries.set i (Entry.freed s.entries[i].revision) }

/-- A fault or mismatch in entry i reported (R21, R46): only a STAGED, LIVE or DRAINING entry is marked. -/
def damageReported (s : State) (i : EntryIndex) : State :=
  if s.entries[i].state = .staged ∨ s.entries[i].state = .live ∨ s.entries[i].state = .draining then
    { s with entries := s.entries.set i { s.entries[i] with damaged := true }
             alerts := insertAlert (.damaged i) s.alerts }
  else s

/-- The words of knots first to first + count - 1 of entry i all hold good parity. -/
abbrev AllGood (s : State) (i : EntryIndex) (first count : Nat) : Prop :=
  ∀ j, j < count → (s.readKnot i (first + j)).good = true

/-- Knot j is the first of a run from `first` whose word holds a parity fault. -/
abbrev FirstFault (s : State) (i : EntryIndex) (first count j : Nat) : Prop :=
  first ≤ j ∧ j < first + count ∧ (s.readKnot i j).good = false ∧ ∀ k, k < j → first ≤ k → (s.readKnot i k).good = true

/-- The values of knots first to first + count - 1 of entry i. -/
def knotValues (s : State) (i : EntryIndex) (first count : Nat) : List Knot :=
  (List.range' first count).map (fun j => (s.readKnot i j).value)

/-- No ATTACH of a list names a damaged entry (R74). -/
abbrev NoDamagedAttach (s : State) (es : List Edit) : Prop :=
  ∀ e ∈ es, (match e with
    | .attach h _ _ => s.entries[h.index].damaged
    | .detach _ => false
    | .move _ _ _ => false) = false

/-- The first ATTACH of a list, in list order, that names a damaged entry (R77). -/
def FirstDamagedAttach (s : State) (es : List Edit) (h : Handle) : Prop :=
  ∃ before k p after, es = before ++ Edit.attach h k p :: after ∧ s.entries[h.index].damaged = true ∧
    NoDamagedAttach s before

/-- The first consecutive pair of an anchor list that breaks condition 3 of R54. -/
def FirstCrowded (as : List Anchor) (a b : Anchor) : Prop :=
  ∃ j, as[j]? = some a ∧ as[j + 1]? = some b ∧ ¬ a.upper < b.lower ∧
    ∀ i x y, i < j → as[i]? = some x → as[i + 1]? = some y → x.upper < y.lower

/-- The target a COMMIT works out for a stream whose counter is C: C + 1 for NEXT (kind 0), N for a count (kind 1). -/
abbrev CommitTarget (kind : Byte) (N C T : Word) : Prop := (kind = 0 ∧ T = C + 1) ∨ (kind = 1 ∧ T = N)

/-- Stream n passes every check a COMMIT makes on it (R74), with target T. -/
def CommitPasses (s : State) (n : Stream) (T : Word) : Prop :=
  ∃ c, s.views[n].config = some c ∧ s.lists[n].edits ≠ [] ∧ s.lists[n].target = none ∧
    NoDamagedAttach s s.lists[n].edits ∧ s.layoutFault c (s.projected n) = none ∧
    1 ≤ (T - s.points[n].counter).toNat ∧ (T - s.points[n].counter).toNat ≤ 32767

/-- The next point on stream n applies its list (R80). -/
abbrev DueOn (s : State) (n : Stream) : Prop := s.lists[n].target = some (s.points[n].counter + 1)

/-- What the points made on some streams publish (R80 to R84): on each whose list was due, the applied view with its
generation and an empty, UNARMED list; elsewhere nothing; APPLIED where the mask names the stream; and no entry that
no applied list names is changed. -/
def Published (s t : State) (made : Stream → Prop) : Prop :=
  (∀ n, made n → DueOn s n →
    t.views[n] = { s.views[n] with anchors := applyEdits s.views[n].anchors s.lists[n].edits,
                                   generation := s.views[n].generation + 1 } ∧
    t.lists[n] = { edits := [], target := none }) ∧
  (∀ n, ¬ (made n ∧ DueOn s n) → t.views[n] = s.views[n] ∧ t.lists[n] = s.lists[n]) ∧
  (∀ n, Alert.applied n ∈ t.alerts ↔
    Alert.applied n ∈ s.alerts ∨ (made n ∧ DueOn s n ∧ inMask s.appliedMask n = true)) ∧
  (∀ a, (∀ n, a ≠ Alert.applied n) → (a ∈ t.alerts ↔ a ∈ s.alerts)) ∧
  (∀ i : EntryIndex, (∀ n, made n → DueOn s n → ∀ e ∈ s.lists[n].edits, e.handle.index ≠ i) →
    t.entries[i] = s.entries[i])

/-- Port p's record replaced. -/
def withPort (s : State) (p : Stream) (x : Port) : State := { s with ports := s.ports.set p x }

/-- Port p with these messages made on its outgoing lane, and nothing else. -/
def withMessages (s : State) (p : Stream) (ms : List OutMessage) : State :=
  withPort s p { s.ports[p] with out := s.ports[p].out ++ ms }

/-- The timer of a port that holds these credits and this stall limit, once a lookup has become its head (R128). -/
def timerForHead (credits : Nat) (limit : Byte) (w : Lookup) : Timer :=
  if w.rowsOwed ≠ [] ∧ w.granted = none ∧ w.cancelling = false ∧ credits = 0 ∧ limit.toNat ≠ 0 then
    .running 0 limit.toNat
  else .stopped

/-- Port p with its head h ended by these messages, `rest` behind it (section 7.9): references released, the head gone,
the waiting lookup head with its HEADER, the timer judged for it. -/
def headEnded (s : State) (p : Stream) (h : Lookup) (rest : List Lookup) (ms : List OutMessage) : State :=
  let r := s.releaseRefs h.selection
  match rest with
  | [] => withPort r p { s.ports[p] with queue := [], timer := .stopped, out := s.ports[p].out ++ ms }
  | w :: _ => withPort r p
      { s.ports[p] with queue := rest, timer := timerForHead s.ports[p].credits s.ports[p].stallLimit w,
                        out := s.ports[p].out ++ ms ++ [.header (r.headerOf p w)] }

/-- Port p with its waiting lookup w ended by these messages behind head h. -/
def waitingEnded (s : State) (p : Stream) (h w : Lookup) (ms : List OutMessage) : State :=
  withPort (s.releaseRefs w.selection) p { s.ports[p] with queue := [h], out := s.ports[p].out ++ ms }

/-- The row of the opcode table that a request with this tag is. -/
def requestRow (tag : Byte) : Request → Instr
  | .create c r ch f l => .create tag c r ch f l
  | .delete h => .delete tag h
  | .queryProfile h => .queryProfile tag h
  | .queryStore => .queryStore tag
  | .writeKnots h first count ks => .writeKnots tag h first count ks
  | .readKnots h first count => .readKnots tag h first count
  | .finish h crc => .finish tag h crc
  | .verify h => .verify tag h
  | .configureView n c r ch f => .configureView tag n c r ch f
  | .queryView n => .queryView tag n
  | .attach n h k p => .attach tag n h k p
  | .detach n h => .detach tag n h
  | .move n h k p => .move tag n h k p
  | .commit m kind n => .commit tag m kind n
  | .withdraw m => .withdraw tag m
  | .discard m => .discard tag m
  | .queryEdits n => .queryEdits tag n
  | .point m => .point tag m
  | .setPoints n src pol pre => .setPoints tag n src pol pre
  | .clearCounts m => .clearCounts tag m
  | .queryPoints => .queryPoints tag
  | .setPort p e l => .setPort tag p e l
  | .queryPort p => .queryPort tag p
  | .programBaseline n h k p => .programBaseline tag n h k p
  | .restoreBaseline n => .restoreBaseline tag n
  | .querySlot n => .querySlot tag n
  | .setGroup a e k => .setGroup tag a e k
  | .setAlerts m w => .setAlerts tag m w
  | .readAlerts => .readAlerts tag

/-- The requests that a part executes on its group address (R174). -/
def groupRequest : Request → Bool
  | .commit _ _ _ => true
  | .withdraw _ => true
  | .discard _ => true
  | .point _ => true
  | .clearCounts _ => true
  | _ => false

/-- The bus acknowledges this part's group address, the selector and the first request byte of a group write (R173,
R175). -/
abbrev groupWriteTaken (s : State) (others : OtherAcknowledgers) : Prop :=
  (s.acknowledger = true ∧ s.engine = .idle) ∨ others = .ready

/-- The port takes link messages as they arrive: its lane waits for a kind byte and no reset waits for its granted row. -/
abbrev Listening (s : State) (p : Stream) : Prop := s.ports[p].framing = .waiting ∧ s.ports[p].resetting = false

/-- The port record with the ROW of row r made for its head h (R125). -/
def rowMade (x : Port) (h : Lookup) (rest : List Lookup) (r : Nat) (ks : List Knot) : Port :=
  { x with credits := x.credits - 1
           queue := { h with granted := none, rowsSent := h.rowsSent + 1 } :: rest
           out := x.out ++ [.row h.tag r ks] }

end Sys2Proof.Safety
end

