-- ==== Sys2Proof/WellFormed.lean ====
section
/-! DEFINITION. Which terms are commands that can reach the part as their row describes them. `exec` gives every
other term a meaning too: the write or message it spells is judged by the same rules. -/

namespace Sys2Proof

/-- A WRITE_KNOTS carries as many knots as its count byte says, and its parameters fit in 64 bytes (R166, R180). -/
def Request.wellFormed : Request → Bool
  | .writeKnots _ _ count knots => knots.length = count.toNat && count.toNat ≤ 29
  | _ => true

/-- The knot index of a stored fault during a load lies in the largest grid (R1). -/
def LoadUpset.wellFormed (u : LoadUpset) : Bool := u.index < 768

/-- The command's operands are such as its row describes. -/
def Instr.wellFormed : Instr → Bool
  | .create .. => true
  | .delete .. => true
  | .queryProfile .. => true
  | .queryStore .. => true
  | .writeKnots _ h first count knots => (Request.writeKnots h first count knots).wellFormed
  | .readKnots .. => true
  | .finish .. => true
  | .finishComplete => true
  | .verify .. => true
  | .verifyComplete => true
  | .configureView .. => true
  | .queryView .. => true
  | .attach .. => true
  | .detach .. => true
  | .move .. => true
  | .commit .. => true
  | .withdraw .. => true
  | .discard .. => true
  | .queryEdits .. => true
  | .point .. => true
  | .setPoints .. => true
  | .clearCounts .. => true
  | .queryPoints .. => true
  | .setPort .. => true
  | .queryPort .. => true
  | .programBaseline .. => true
  | .scanEnd => true
  | .programWriteEnd _ => true
  | .programVerifyEnd _ _ => true
  | .restoreBaseline .. => true
  | .restoreComplete us => us.all LoadUpset.wellFormed
  | .querySlot .. => true
  | .setGroup .. => true
  | .setAlerts .. => true
  | .readAlerts .. => true
  | .unknownRequest m => match judgeRequest m with
    | .unknown _ _ => true
    | _ => false
  | .requestFormatError m => m ≠ [] && match judgeRequest m with
    | .format _ _ => true
    | _ => false
  | .busyNack m => m ≠ []
  | .windowSelect sel extra => extra = [] || (sel ≠ 0x01 && sel ≠ 0x03)
  | .abort .. => true
  | .groupWrite .. => true
  | .boundaryEdge .. => true
  | .lookup _ tag key first count => (LinkMessage.lookup tag key first count).fieldsOk
  | .credit _ n => (LinkMessage.credit n).fieldsOk
  | .cancel _ tag => (LinkMessage.cancel tag).fieldsOk
  | .linkReset _ => true
  | .badMessage _ bytes => match bytes with
    | [] => false
    | kind :: _ => match messageLength kind with
      | none => kind ≠ 0
      | some n => bytes.length = n && match parseMessage bytes with
        | none => true
        | some m => !m.fieldsOk
  | .linkMessageHeld _ m => m.fieldsOk
  | .grant => true
  | .handover => true
  | .faultReport => true
  | .stallExpiry _ => true
  | .deviceReset .. => true
  | .slotLoad _ us => us.all LoadUpset.wellFormed
  | .parityFault .. => true
  | .idleByte _ => true

end Sys2Proof
end

