-- ==== Sys2Proof/Certificates/Slice0/Obligations.lean ====
section
/-! DEFINITION. The statements for the provers. -/

open Sys2Proof Sys2Proof.Machine Sys2Proof.Safety

/-! ### The step -/

/-- A step takes the command at the front of the queue and carries it out on the state with the queue's rest. -/
def Obligations.StepRunsFrontCommand : Prop :=
  ∀ (c : Instr) (rest : List Instr) (s : State),
    step { s with pending := c :: rest } = exec c { s with pending := rest }

/-- Every command answers a next state, whatever its operands and the state, and leaves the queue as it was. -/
def Obligations.EveryCommandAnswersNext : Prop :=
  ∀ (c : Instr) (s : State), ∃ t, exec c s = .next t ∧ t.pending = s.pending

/-- The model's choice (log entry 13): on an empty queue one REFCLK period passes on every running stall timer; where a
timer has run its recorded limit, the lowest such port's timer expires instead, as STALL_EXPIRY does. -/
def Obligations.IdleStepIsOneRefclkPeriod : Prop :=
  (∀ s : State, s.pending = [] →
    (∀ (p : Stream) (e l : Nat), s.ports[p].timer = .running e l → e < l * 25000) →
    ∃ t, step s = .next t ∧ t = { s with ports := t.ports } ∧
      ∀ p : Stream, t.ports[p] = { s.ports[p] with timer :=
        match s.ports[p].timer with
        | .stopped => .stopped
        | .running e l => .running (e + 1) l }) ∧
  (∀ (s : State) (p : Stream) (e l : Nat), s.pending = [] → s.ports[p].timer = .running e l → l * 25000 ≤ e →
    (∀ (q : Stream) (e' l' : Nat), q < p → s.ports[q].timer = .running e' l' → e' < l' * 25000) →
    step s = exec (.stallExpiry p) s)

/-! ### Reset -/

/-- What reset leaves, field by field: `State.reset`, whose line levels are LOW, straps 0 and slots BLANK by the model's choice
(log entries 1 and 2) and whose Knot Memory lists no word (log entry 3); and DEVICE_RESET from any state, which keeps the
slots and the queue, takes the levels and straps, cuts off the message that each lane is sending, as far as the row's
operand says it has come (log entry 18), empties the hold (log entry 31), and begins the start-up load with slot 0 (log
entry 28): where the slot is PROGRAMMED as read its entry is allocated and its pages hold unity, and every other word
reads as an unlisted one (log entry 3). After it the part acknowledges its strapped address and no other. -/
def Obligations.ResetLeavesStatedValues : Prop :=
  ((∀ i : EntryIndex, State.reset.entries[i].state = .free ∧ State.reset.entries[i].revision = 0 ∧
     State.reset.entries[i].profile = none ∧ State.reset.entries[i].pages = [] ∧
     State.reset.entries[i].checkValue = none ∧ State.reset.entries[i].damaged = false ∧
     State.reset.entries[i].membership = 0 ∧ State.reset.entries[i].pendingRefs = 0 ∧
     State.reset.entries[i].lookupRefs = 0) ∧
   State.reset.freePages = List.range 512 ∧ State.reset.memory = [] ∧
   (∀ n : Stream, State.reset.views[n] = { config := none, anchors := [], generation := 0 } ∧
     State.reset.lists[n] = { edits := [], target := none } ∧
     State.reset.points[n] = { source := n, polarity := .rising, prescale := 1, edgeCount := 0, counter := 0 } ∧
     State.reset.ports[n] = { active := false, enabled := true, queue := [], credits := 0, stallLimit := 20,
                              timer := .stopped, framing := .skipping, held := [], out := [], cut := [] } ∧
     State.reset.slots[n] = { state := .blank, fields := none } ∧ State.reset.lines[n] = .low) ∧
   State.reset.datapath = none ∧ State.reset.lastGranted = 3 ∧ State.reset.engine = .starting 0 none ∧
   State.reset.primaryAddress = 0x2C ∧ State.reset.window = none ∧
   State.reset.response = { tag := 0, code := 0, result := .none_, data := [] } ∧
   State.reset.groupAddress = 0x58 ∧ State.reset.groupEnabled = false ∧ State.reset.acknowledger = false ∧
   State.reset.alerts = [] ∧ State.reset.appliedMask = 0 ∧ State.reset.watermark = 0 ∧ State.reset.pending = []) ∧
  (∀ (s : State) (moment : ResetMoment) (straps : BitVec 2),
     ∃ t, exec (.deviceReset moment straps) s = .next t ∧
       t.slots = s.slots ∧ t.pending = s.pending ∧
       t.lines[(0 : Stream)] = moment.levels.fb0 ∧ t.lines[(1 : Stream)] = moment.levels.fb1 ∧
       t.lines[(2 : Stream)] = moment.levels.fb2 ∧ t.lines[(3 : Stream)] = moment.levels.fb3 ∧
       t.primaryAddress.toNat = 0x2C + straps.toNat ∧
       (∀ (address : BitVec 7) (read : Bool),
         t.acksAddress address read = decide (address.toNat = 0x2C + straps.toNat)) ∧
       (∀ n : Stream, t.views[n] = { config := none, anchors := [], generation := 0 } ∧
         t.lists[n] = { edits := [], target := none } ∧
         t.points[n] = { source := n, polarity := .rising, prescale := 1, edgeCount := 0, counter := 0 } ∧
         t.ports[n] = { active := false, enabled := true, queue := [], credits := 0, stallLimit := 20,
                        timer := .stopped, framing := .skipping, held := [], out := [], cut := t.ports[n].cut } ∧
         (∀ before m after j, s.ports[n].out = before ++ m :: after →
           sentBy moment.sent n = (before.flatMap OutMessage.encode).length + j → j < m.encode.length →
           t.ports[n].cut = m.encode.take j) ∧
         ((s.ports[n].out.flatMap OutMessage.encode).length ≤ sentBy moment.sent n → t.ports[n].cut = [])) ∧
       t.datapath = none ∧ t.lastGranted = 3 ∧ t.window = none ∧
       t.response = { tag := 0, code := 0, result := .none_, data := [] } ∧
       t.groupAddress = 0x58 ∧ t.groupEnabled = false ∧ t.acknowledger = false ∧
       t.alerts = [] ∧ t.appliedMask = 0 ∧ t.watermark = 0 ∧
       (∀ i : EntryIndex, i ≠ 0 → t.entries[i] = Entry.freed 0) ∧
       (match s.slots[(0 : Stream)].reading with
        | .programmed f g fmt =>
          t.engine = .starting 0 (some 0) ∧ t.freePages = (List.range 512).drop g.pageCount ∧
          t.entries[(0 : EntryIndex)] =
            { revision := 1, state := .loading, profile := some { origin := .baseline 0, geometry := g, format := fmt,
                                                                  label := f.label },
              pages := List.range g.pageCount, checkValue := none, damaged := false, membership := 0,
              pendingRefs := 0, lookupRefs := 0 } ∧
          (∀ a, t.memory.read a = if a / 64 < g.pageCount then KnotWord.ofValue (match fmt with
            | .uq1_11 => 2048
            | .uq2_10 => 1024
            | .uq3_9 => 512) else Memory.unlisted)
        | .blank =>
          t.engine = .starting 0 none ∧ t.freePages = List.range 512 ∧ t.entries[(0 : EntryIndex)] = Entry.freed 0 ∧
          t.memory = []
        | .spoiled _ =>
          t.engine = .starting 0 none ∧ t.freePages = List.range 512 ∧ t.entries[(0 : EntryIndex)] = Entry.freed 0 ∧
          t.memory = []))

/-! ### The laws of the device -/

/-- Every law of the device holds right after reset. State.reset's slots, line levels and straps, and the form of its Knot
Memory, are the model's choices (log entries 1, 2 and 3). -/
def Obligations.LawsHoldAtReset : Prop :=
  StoreLaw State.reset ∧ AlertLaw State.reset ∧ ArmedLaw State.reset ∧ ServingLaw State.reset ∧ RecordLaw State.reset

/-- Every step keeps the Knot Memory in canonical form (the model's own form of it, log entry 3: no listed word equals what
an unlisted one reads as) within its 32,768 words, and every page in exactly one place, so that free pages and allocated
pages add up to 512; and every step keeps the alert set a set in kind order and ascending subject, so that it holds at
most 75 conditions. -/
def Obligations.StepKeepsPagesAndAlerts : Prop :=
  ((∀ s t : State, StoreLaw s → step s = .next t → StoreLaw t) ∧
     (∀ s : State, StoreLaw s → s.freePages.length +
       ((s.entries.toList.filter (fun e => e.state ≠ .free)).map (fun e => e.pages.length)).sum = 512)) ∧
  ((∀ s t : State, AlertLaw s → step s = .next t → AlertLaw t) ∧ (∀ s : State, AlertLaw s → s.alerts.length ≤ 75))

/-- Every step keeps each armed list's target 1 to 32767 points ahead of its stream's counter, no list longer than 8
edits, no armed list empty, and every point record within its ranges. -/
def Obligations.StepKeepsArmedTargetsAhead : Prop :=
  ∀ s t : State, ArmedLaw s → step s = .next t → ArmedLaw t

/-- Every step keeps the laws of the lookup ports and the datapath. And every accepted lookup has its one END, or is ended
by a link RESET: so for each byte that arrives on a lane, for each row that brings no byte, a device reset apart, and for
a step on an empty queue; and a row that brings bytes does what its bytes do, one after another. The model's choices in
it: rows as their bytes, held messages taken with the RESET_DONE, the step on an empty queue (log entries 9, 11 and 13). -/
def Obligations.StepKeepsServingLaw : Prop :=
  (∀ s t : State, ServingLaw s → step s = .next t → ServingLaw t) ∧
  (∀ (s : State) (p q : Stream) (b : Byte), ServingLaw s → EndsOnce s.ports[q] (s.receiveByte p b).ports[q]) ∧
  (∀ (s : State) (p : Stream) (b : Byte), ServingLaw s → ServingLaw (s.receiveByte p b)) ∧
  (∀ (s : State) (c : Instr) (p : Stream) (bytes : List Byte), laneBytesOf c = some (p, bytes) →
    exec c s = .next (bytes.foldl (fun s b => s.receiveByte p b) s)) ∧
  (∀ (s t : State) (c : Instr) (q : Stream), ServingLaw s → laneBytesOf c = none →
    (∀ moment straps, c ≠ .deviceReset moment straps) → exec c s = .next t → EndsOnce s.ports[q] t.ports[q]) ∧
  (∀ (s t : State) (q : Stream), ServingLaw s → s.pending = [] → step s = .next t → EndsOnce s.ports[q] t.ports[q])

/-- Every step keeps the laws of the records: R2's table, reference counts equal to what holds them, membership equal to
the views' anchors, valid layouts, current handles. -/
def Obligations.StepKeepsRecordLaw : Prop :=
  ∀ s t : State, ServingLaw s → RecordLaw s → step s = .next t → RecordLaw t

/-- What changes only at events of its own. A list ARMED for T stays ARMED for T with the same edits, until its apply, which
makes the counter T, or a WITHDRAW that names its stream, whichever row brings it, which keeps the edits, or a device
reset; and while ARMED its target lies 1 to 32767 points ahead. A view keeps its generation and anchors, but at an apply
or at the start-up attach, which raise the generation by one, and at a device reset, which sets it to 0. An entry keeps
its origin, label, check value and damaged flag until it is freed. -/
def Obligations.RecordsChangeOnlyAtTheirEvents : Prop :=
  (∀ (s t : State) (n : Stream) (T : Word), ArmedLaw s → step s = .next t → s.lists[n].target = some T →
    (1 ≤ (T - s.points[n].counter).toNat ∧ (T - s.points[n].counter).toNat ≤ 32767) ∧
    (t.lists[n] = s.lists[n] ∨
     (t.lists[n] = { edits := [], target := none } ∧ t.points[n].counter = T) ∨
     (t.lists[n] = { edits := s.lists[n].edits, target := none } ∧
       ∃ c, s.pending.head? = some c ∧ BringsWithdraw c n) ∨
     (t.lists[n] = { edits := [], target := none } ∧ ∃ m st, s.pending.head? = some (.deviceReset m st)))) ∧
  (∀ (s t : State) (n : Stream), RecordLaw s → step s = .next t →
    (t.views[n].generation = s.views[n].generation ∧ t.views[n].anchors = s.views[n].anchors) ∨
    (t.views[n].generation = s.views[n].generation + 1 ∧ t.views[n].anchors = s.projected n ∧
      t.lists[n] = { edits := [], target := none } ∧
      ∃ T, s.lists[n].target = some T ∧ t.points[n].counter = T) ∨
    (t.views[n].generation = s.views[n].generation + 1 ∧ (∃ a, t.views[n].anchors = [a]) ∧ isStarting s = true ∧
      ∃ us, s.pending.head? = some (.slotLoad n us)) ∨
    (t.views[n].generation = 0 ∧ t.views[n].anchors = [] ∧ ∃ m st, s.pending.head? = some (.deviceReset m st))) ∧
  (∀ (s t : State) (i : EntryIndex), RecordLaw s → step s = .next t →
    (∀ m st, s.pending.head? ≠ some (.deviceReset m st)) → EntryKept s t i)

/-- A slot's stored state moves only along the table of R152, by the programming's own events; and a stored PROGRAMMING,
or a PROGRAMMED slot whose stored geometry or format is out of range, is read as SPOILED. -/
def Obligations.SlotStatesFollowTheirTable : Prop :=
  (∀ (s t : State) (n : Stream), RecordLaw s → step s = .next t →
    t.slots[n].state = s.slots[n].state ∨
    (s.slots[n].state = .blank ∧ t.slots[n].state = .programming ∧ s.pending.head? = some .scanEnd) ∨
    (s.slots[n].state = .programming ∧ t.slots[n].state = .programmed ∧
      ∃ w r, s.pending.head? = some (.programVerifyEnd w r)) ∨
    (s.slots[n].state = .programming ∧ t.slots[n].state = .spoiled ∧
      ((∃ r, s.pending.head? = some (.programWriteEnd r)) ∨ (∃ w r, s.pending.head? = some (.programVerifyEnd w r))))) ∧
  (∀ (s t : State), step s = .next t → s.pending.head? ≠ some .scanEnd →
    (∀ r, s.pending.head? ≠ some (.programWriteEnd r)) → (∀ w r, s.pending.head? ≠ some (.programVerifyEnd w r)) →
    t.slots = s.slots) ∧
  (∀ x : Slot, x.state = .programming → x.reading = .spoiled .programming) ∧
  (∀ x : Slot, x.state = .spoiled → x.reading = .spoiled .spoiled) ∧
  (∀ (x : Slot) (f : SlotFields), x.state = .programmed → x.fields = some f →
    ((¬ ∃ g, GridBytes f.columns f.rows f.channels g) ∨ (¬ ∃ fmt, FormatByte f.format fmt)) →
    x.reading = .spoiled .badGrid)

/-- No step but a stored fault or a device reset alters a knot word of a STAGED, LIVE or DRAINING entry, though the entry
be freed in it. -/
def Obligations.NoWriteReachesCheckedKnots : Prop :=
  ∀ (s t : State) (i : EntryIndex) (j a : Nat), StoreLaw s → RecordLaw s → step s = .next t →
    (s.entries[i].state = .staged ∨ s.entries[i].state = .live ∨ s.entries[i].state = .draining) →
    (∀ page offset u, s.pending.head? ≠ some (.parityFault page offset u)) →
    (∀ l st, s.pending.head? ≠ some (.deviceReset l st)) →
    s.knotAddress i j = some a → t.memory.read a = s.memory.read a

/-! ### The Profile Table -/

/-- An accepted CREATE takes the FREE entry of lowest index and the first pages of the free list, leaves the entry LOADING
with the values of R8, and fills every word of the pages with the format's unity value; POOL_LOW as R48 gives. A refused
one, by its checks in order, allocates nothing and changes no revision. -/
def Obligations.CreateAllocatesOrRefuses : Prop :=
  (∀ (s : State) (tag c r ch f : Byte) (label : Word) (g : Geometry) (fmt : Format) (i : EntryIndex),
     s.engine = .idle → s.memory.wf = true → GridBytes c r ch g → FormatByte f fmt →
     s.entries[i].state = .free → (∀ j : EntryIndex, j < i → s.entries[j].state ≠ .free) →
     (g.columns * g.rows * g.channels + 63) / 64 ≤ s.freePages.length →
     let p := (g.columns * g.rows * g.channels + 63) / 64
     let rev := s.entries[i].revision + 1
     ∃ t, exec (.create tag c r ch f label) s = .next t ∧
       t = { answered s 9 tag 0x10 .ok
               ([byteOf i.val, rev] ++ wordOfNat (g.columns * g.rows * g.channels) ++ [byteOf p]) with
               entries := t.entries, memory := t.memory, freePages := t.freePages, alerts := t.alerts } ∧
       t.entries[i] = { revision := rev, state := .loading,
                        profile := some { origin := .host, geometry := g, format := fmt, label := label },
                        pages := s.freePages.take p, checkValue := none, damaged := false, membership := 0,
                        pendingRefs := 0, lookupRefs := 0 } ∧
       (∀ j : EntryIndex, j ≠ i → t.entries[j] = s.entries[j]) ∧
       t.freePages = s.freePages.drop p ∧
       (∀ page ∈ s.freePages.take p, ∀ o, o < 64 →
         t.memory.read (64 * page + o) = KnotWord.ofValue (match fmt with
           | .uq1_11 => 2048
           | .uq2_10 => 1024
           | .uq3_9 => 512)) ∧
       (∀ a, a / 64 ∉ s.freePages.take p → t.memory.read a = s.memory.read a) ∧
       t.alerts = (if s.watermark ≤ s.freePages.length ∧ s.freePages.length - p < s.watermark
                   then insertAlert .poolLow s.alerts else s.alerts)) ∧
  (∀ (s : State) (tag c r ch f : Byte) (label : Word), s.engine = .idle →
     ((¬ ∃ g, GridBytes c r ch g) → exec (.create tag c r ch f label) s = .next (answered s 9 tag 0x10 .range [])) ∧
     (∀ g, GridBytes c r ch g → (¬ ∃ fmt, FormatByte f fmt) →
       exec (.create tag c r ch f label) s = .next (answered s 9 tag 0x10 .range [])) ∧
     (∀ g fmt, GridBytes c r ch g → FormatByte f fmt → (∀ i : EntryIndex, s.entries[i].state ≠ .free) →
       exec (.create tag c r ch f label) s = .next (answered s 9 tag 0x10 .tableFull [])) ∧
     (∀ g fmt, ∀ i : EntryIndex, GridBytes c r ch g → FormatByte f fmt → s.entries[i].state = .free →
       s.freePages.length < (g.columns * g.rows * g.channels + 63) / 64 →
       exec (.create tag c r ch f label) s = .next (answered s 9 tag 0x10 .noSpace [])))

/-- The handle check of R5, in each request that names a profile, at the place its rule gives it. -/
def Obligations.HandleCheckRefuses : Prop :=
  ∀ (s : State) (tag : Byte) (h : RawHandle) (r : Result), s.engine = .idle → HandleRefused s h r →
    exec (.delete tag h) s = .next (answered s 5 tag 0x11 r []) ∧
    (∃ d, exec (.queryProfile tag h) s = .next (answered s 5 tag 0x12 r d)) ∧
    (∀ (first : Word) (count : Byte) (ks : List Word), ks.length = count.toNat → count.toNat ≤ 29 →
      (∀ k ∈ ks, k.toNat < 4096) →
      exec (.writeKnots tag h first count ks) s = .next (answered s (8 + 2 * ks.length) tag 0x14 r [])) ∧
    (∀ first count, exec (.readKnots tag h first count) s = .next (answered s 8 tag 0x15 r [])) ∧
    (∀ crc, exec (.finish tag h crc) s = .next (answered s 7 tag 0x16 r [])) ∧
    exec (.verify tag h) s = .next (answered s 5 tag 0x17 r []) ∧
    (∀ (b : Byte) (n : Stream) (c : ViewConfig) (k p : Word), StreamByte b n → s.views[n].config = some c →
      s.lists[n].target = none → s.lists[n].edits.length < 8 →
      exec (.attach tag b h k p) s = .next (answered s 10 tag 0x22 r []) ∧
      exec (.detach tag b h) s = .next (answered s 6 tag 0x23 r []) ∧
      exec (.move tag b h k p) s = .next (answered s 10 tag 0x24 r [])) ∧
    (∀ (b : Byte) (n : Stream) (k p : Word), StreamByte b n → s.slots[n].reading = .blank →
      exec (.programBaseline tag b h k p) s = .next (answered s 10 tag 0x50 r []))

/-- DELETE by the table of R11, for a handle that passes the check of R5 and for one that does not. -/
def Obligations.DeleteFollowsStateTable : Prop :=
  ∀ (s : State) (tag : Byte) (h : RawHandle), s.engine = .idle →
    (∀ r, HandleRefused s h r → exec (.delete tag h) s = .next (answered s 5 tag 0x11 r [])) ∧
    (∀ i : EntryIndex, Names s h i →
      (s.entries[i].state = .loading →
        exec (.delete tag h) s = .next (answered (afterFreeing s i) 5 tag 0x11 .ok [h.index, h.revision, 0x00])) ∧
      (s.entries[i].state = .staged → 0 < s.entries[i].pendingRefs →
        exec (.delete tag h) s = .next (answered s 5 tag 0x11 .inUse [])) ∧
      (s.entries[i].state = .staged → s.entries[i].pendingRefs = 0 → s.entries[i].lookupRefs = 0 →
        exec (.delete tag h) s = .next (answered (afterFreeing s i) 5 tag 0x11 .ok [h.index, h.revision, 0x00])) ∧
      (s.entries[i].state = .staged → s.entries[i].pendingRefs = 0 → 0 < s.entries[i].lookupRefs →
        exec (.delete tag h) s = .next (answered
          { s with entries := s.entries.set i { s.entries[i] with state := .draining } } 5 tag 0x11 .ok
          [h.index, h.revision, 0x04])) ∧
      (s.entries[i].state = .live → exec (.delete tag h) s = .next (answered s 5 tag 0x11 .live [])) ∧
      (s.entries[i].state = .draining → exec (.delete tag h) s = .next (answered s 5 tag 0x11 .state [])))

/-- QUERY_PROFILE reports the entry's record (an absent check value as 0x0000: the model's choice, log entry 34), a STALE
refusal the current revision and state; QUERY_STORE reports the occupancy; neither changes anything but the window and the
response. The codes of entry state, origin and format in the answers are those of section 11.1. -/
def Obligations.ProfileAndStoreQueriesReport : Prop :=
  (∀ (s : State) (tag : Byte) (h : RawHandle) (i : EntryIndex) (p : Profile), s.engine = .idle → Names s h i →
    s.entries[i].profile = some p →
    exec (.queryProfile tag h) s = .next (answered s 5 tag 0x12 .ok
      ([h.index, h.revision, s.entries[i].state.byte, p.origin.byte, byteOf p.geometry.columns, byteOf p.geometry.rows,
        byteOf p.geometry.channels, p.format.byte]
        ++ wordOfNat (p.geometry.columns * p.geometry.rows * p.geometry.channels)
        ++ [byteOf s.entries[i].pages.length] ++ s.entries[i].pages.flatMap wordOfNat ++ wordBytes p.label
        ++ [if s.entries[i].checkValue.isSome then 1 else 0] ++ wordBytes (s.entries[i].checkValue.getD 0)
        ++ [if s.entries[i].damaged then 1 else 0, s.entries[i].membership.setWidth 8,
            byteOf s.entries[i].pendingRefs, byteOf s.entries[i].lookupRefs]))) ∧
  (∀ (s : State) (tag : Byte) (h : RawHandle) (i : EntryIndex), s.engine = .idle → h.index.toNat = i.val →
    (s.entries[i].state = .free ∨ s.entries[i].revision ≠ h.revision) →
    exec (.queryProfile tag h) s =
      .next (answered s 5 tag 0x12 .stale [s.entries[i].revision, s.entries[i].state.byte])) ∧
  (∀ (s : State) (tag : Byte) (h : RawHandle), s.engine = .idle → 64 ≤ h.index.toNat →
    exec (.queryProfile tag h) s = .next (answered s 5 tag 0x12 .range [])) ∧
  (∀ (s : State) (tag : Byte), s.engine = .idle →
    ∃ map : List Byte,
      exec (.queryStore tag) s = .next (answered s 3 tag 0x13 .ok
        ([byteOf (s.entries.toList.countP (fun e => e.state = .free))] ++ wordOfNat s.freePages.length
          ++ wordOfNat s.watermark
          ++ [byteOf (s.entries.toList.countP (fun e => e.state = .loading)),
              byteOf (s.entries.toList.countP (fun e => e.state = .staged)),
              byteOf (s.entries.toList.countP (fun e => e.state = .live)),
              byteOf (s.entries.toList.countP (fun e => e.state = .draining))]
          ++ wordOfNat ((s.entries.toList.map (fun e => if e.state = .draining then e.pages.length else 0)).sum)
          ++ map)) ∧
      map.length = 8 ∧
      ∀ i : EntryIndex, (map.getD (i.val / 8) 0).getLsbD (i.val % 8) = decide (s.entries[i].state ≠ .free)) ∧
  (∀ st : EntryState, st.byte = match st with
    | .free => 0x00
    | .loading => 0x01
    | .staged => 0x02
    | .live => 0x03
    | .draining => 0x04) ∧
  (∀ o : Origin, o.byte = match o with
    | .host => 0x00
    | .baseline n => BitVec.ofNat 8 (0x10 + n.val)) ∧
  (∀ f : Format, f.byte = match f with
    | .uq1_11 => 0x00
    | .uq2_10 => 0x01
    | .uq3_9 => 0x02)

/-! ### Knots -/

/-- An accepted WRITE_KNOTS writes its knots with agreeing parity at the places R31 gives, and no other word. A refused one,
for its length, for a knot above 4095, then by the checks of R33 in order, writes nothing; a row whose knots differ from
its count, or are more than 29, is answered FORMAT and acknowledged as its bytes are (the model's reading, log entry 8). -/
def Obligations.WriteKnotsStoresOrRefuses : Prop :=
  (∀ (s : State) (tag : Byte) (h : RawHandle) (i : EntryIndex) (first : Word) (count : Byte) (ks : List Word),
     s.engine = .idle → s.memory.wf = true → Names s h i → s.entries[i].state = .loading →
     s.entries[i].pages.Nodup → s.entries[i].knotCount ≤ 64 * s.entries[i].pages.length →
     1 ≤ count.toNat → count.toNat ≤ 24 → ks.length = count.toNat → (∀ k ∈ ks, k.toNat < 4096) →
     first.toNat + count.toNat ≤ s.entries[i].knotCount →
     ∃ t, exec (.writeKnots tag h first count ks) s = .next t ∧
       t = { answered s (8 + 2 * count.toNat) tag 0x14 .ok (wordBytes first ++ [count]) with memory := t.memory } ∧
       (∀ (k : Nat) (page : Nat), k < count.toNat → s.entries[i].pages[(first.toNat + k) / 64]? = some page →
         t.memory.read (64 * page + (first.toNat + k) % 64) = KnotWord.ofValue ((ks.getD k 0).setWidth 12)) ∧
       (∀ a, (∀ k, k < count.toNat → s.knotAddress i (first.toNat + k) ≠ some a) → t.memory.read a = s.memory.read a)) ∧
  (∀ (s : State) (tag : Byte) (h : RawHandle) (first : Word) (count : Byte) (ks : List Word), s.engine = .idle →
     (ks.length ≠ count.toNat ∨ 29 < ks.length → exec (.writeKnots tag h first count ks) s =
       .next { answered s (8 + 2 * ks.length) tag 0x14 .format [] with
                 acks := requestAcks (encodeRequest tag (.writeKnots h first count ks)) }) ∧
     (ks.length = count.toNat → ks.length ≤ 29 → (∃ k ∈ ks, 4096 ≤ k.toNat) →
       exec (.writeKnots tag h first count ks) s = .next (answered s (8 + 2 * ks.length) tag 0x14 .range [])) ∧
     (ks.length = count.toNat → ks.length ≤ 29 → (∀ k ∈ ks, k.toNat < 4096) →
       (∀ r, HandleRefused s h r → exec (.writeKnots tag h first count ks) s =
         .next (answered s (8 + 2 * ks.length) tag 0x14 r [])) ∧
       (∀ i : EntryIndex, Names s h i →
         (count.toNat = 0 ∨ 24 < count.toNat → exec (.writeKnots tag h first count ks) s =
           .next (answered s (8 + 2 * ks.length) tag 0x14 .range [])) ∧
         (1 ≤ count.toNat → count.toNat ≤ 24 → s.entries[i].state ≠ .loading →
           exec (.writeKnots tag h first count ks) s = .next (answered s (8 + 2 * ks.length) tag 0x14 .state [])) ∧
         (1 ≤ count.toNat → count.toNat ≤ 24 → s.entries[i].state = .loading →
           s.entries[i].knotCount < first.toNat + count.toNat →
           exec (.writeKnots tag h first count ks) s = .next (answered s (8 + 2 * ks.length) tag 0x14 .range [])))))

/-- READ_KNOTS: its checks in order, the knots where every word is good, and PARITY with the first faulty knot, reported,
where one is not. -/
def Obligations.ReadKnotsReadsOrReportsFault : Prop :=
  ∀ (s : State) (tag : Byte) (h : RawHandle) (first : Word) (count : Byte), s.engine = .idle →
    (∀ r, HandleRefused s h r → exec (.readKnots tag h first count) s = .next (answered s 8 tag 0x15 r [])) ∧
    (∀ i : EntryIndex, Names s h i →
      (count.toNat = 0 ∨ 24 < count.toNat →
        exec (.readKnots tag h first count) s = .next (answered s 8 tag 0x15 .range [])) ∧
      (1 ≤ count.toNat → count.toNat ≤ 24 → s.entries[i].knotCount < first.toNat + count.toNat →
        exec (.readKnots tag h first count) s = .next (answered s 8 tag 0x15 .range [])) ∧
      (1 ≤ count.toNat → count.toNat ≤ 24 → first.toNat + count.toNat ≤ s.entries[i].knotCount →
        (AllGood s i first.toNat count.toNat →
          exec (.readKnots tag h first count) s = .next (answered s 8 tag 0x15 .ok
            (wordBytes first ++ [count] ++ (knotValues s i first.toNat count.toNat).flatMap knotBytes))) ∧
        (∀ j, FirstFault s i first.toNat count.toNat j →
          exec (.readKnots tag h first count) s =
            .next (answered (damageReported s i) 8 tag 0x15 .parity (wordOfNat j)))))

/-- FINISH: refused STATE off LOADING; taken, the engine is BUSY with NONE in the window; and its check ends as the table
of R40 gives, every word read in the completing event (the model's choice, log entry 5); FINISH_COMPLETE changes nothing
where no FINISH runs (the model's choice, log entry 7). -/
def Obligations.FinishChecksAndStages : Prop :=
  (∀ (s : State) (tag : Byte) (h : RawHandle) (crc : Word) (i : EntryIndex), s.engine = .idle → Names s h i →
    (s.entries[i].state ≠ .loading → exec (.finish tag h crc) s = .next (answered s 7 tag 0x16 .state [])) ∧
    (s.entries[i].state = .loading → exec (.finish tag h crc) s =
      .next { answered s 7 tag 0x16 .none_ [] with engine := .busy tag (.finish i crc) })) ∧
  (∀ (s : State) (tag : Byte) (crc : Word) (i : EntryIndex), s.engine = .busy tag (.finish i crc) →
    (AllGood s i 0 s.entries[i].knotCount → crc16 (knotValues s i 0 s.entries[i].knotCount) = crc →
      exec .finishComplete s = .next (completed
        { s with entries := s.entries.set i { s.entries[i] with state := .staged, checkValue := some crc } }
        tag 0x16 .ok (wordBytes crc))) ∧
    (AllGood s i 0 s.entries[i].knotCount → crc16 (knotValues s i 0 s.entries[i].knotCount) ≠ crc →
      exec .finishComplete s = .next (completed s tag 0x16 .checkMismatch
        (wordBytes (crc16 (knotValues s i 0 s.entries[i].knotCount))))) ∧
    (∀ j, FirstFault s i 0 s.entries[i].knotCount j →
      exec .finishComplete s = .next (completed s tag 0x16 .parity (wordOfNat j)))) ∧
  (∀ s : State, (∀ tag i crc, s.engine ≠ .busy tag (.finish i crc)) → exec .finishComplete s = .next s)

/-- VERIFY: refused STATE off STAGED and LIVE; taken, the engine is BUSY with NONE in the window; and its check ends as
the table of R43 gives, every word read in the completing event (the model's choice, log entry 5); VERIFY_COMPLETE
changes nothing where no VERIFY runs (the model's choice, log entry 7). -/
def Obligations.VerifyChecksAndMarksDamage : Prop :=
  (∀ (s : State) (tag : Byte) (h : RawHandle) (i : EntryIndex), s.engine = .idle → Names s h i →
    (s.entries[i].state ≠ .staged → s.entries[i].state ≠ .live →
      exec (.verify tag h) s = .next (answered s 5 tag 0x17 .state [])) ∧
    (s.entries[i].state = .staged ∨ s.entries[i].state = .live → exec (.verify tag h) s =
      .next { answered s 5 tag 0x17 .none_ [] with engine := .busy tag (.verify i) })) ∧
  (∀ (s : State) (tag : Byte) (i : EntryIndex) (check : Word), s.engine = .busy tag (.verify i) →
    s.entries[i].checkValue = some check →
    (AllGood s i 0 s.entries[i].knotCount → crc16 (knotValues s i 0 s.entries[i].knotCount) = check →
      exec .verifyComplete s = .next (completed s tag 0x17 .ok (wordBytes check))) ∧
    (AllGood s i 0 s.entries[i].knotCount → crc16 (knotValues s i 0 s.entries[i].knotCount) ≠ check →
      exec .verifyComplete s = .next (completed (damageReported s i) tag 0x17 .checkMismatch
        (wordBytes (crc16 (knotValues s i 0 s.entries[i].knotCount)) ++ wordBytes check))) ∧
    (∀ j, FirstFault s i 0 s.entries[i].knotCount j →
      exec .verifyComplete s = .next (completed (damageReported s i) tag 0x17 .parity (wordOfNat j)))) ∧
  (∀ s : State, (∀ tag i, s.engine ≠ .busy tag (.verify i)) → exec .verifyComplete s = .next s)

/-- A stored fault alters one word and nothing else: the word takes the fault's value, and its parity agrees only if the
fault lets it and the word held no fault before (that a faulty word stays faulty whatever the fault: the model's reading,
log entry 23). -/
def Obligations.ParityFaultAltersOneWord : Prop :=
  ∀ (s : State) (page : Fin 512) (offset : Fin 64) (u : WordUpset), s.memory.wf = true →
    ∃ t, exec (.parityFault page offset u) s = .next t ∧ t = { s with memory := t.memory } ∧
      (t.memory.read (64 * page.val + offset.val)).value = u.value ∧
      (t.memory.read (64 * page.val + offset.val)).good
        = (u.agrees && (s.memory.read (64 * page.val + offset.val)).good) ∧
      ∀ a, a ≠ 64 * page.val + offset.val → t.memory.read a = s.memory.read a

/-- The CRC-16 and the CRC-8 give the values the spec states for the bytes 0x31 to 0x39, and a message followed by its own
CRC leaves the register at 0. A HEADER's length byte is 19 for FALLBACK, 25 for PURE and DEGRADED, 33 for BLEND; a ROW's
is twice its knots and two more; every message sent ends with its check byte. The outgoing lane carries the messages whole,
in the order of making, with an idle byte (exactly one: the model's choice, log entry 18) after each and after what a
device reset cut off. Every byte of END, NOTICE, ROW and HEADER is written out, with the codes of sections 11.3 and 11.4 and
the items in the order of R148; two-byte values go high byte first, and knots enter the CRC-16 so. -/
def Obligations.ChecksAndLengthsOfMessages : Prop :=
  (crc16Bytes [0x31, 0x32, 0x33, 0x34, 0x35, 0x36, 0x37, 0x38, 0x39] = 0x29B1 ∧
     crc8 [0x31, 0x32, 0x33, 0x34, 0x35, 0x36, 0x37, 0x38, 0x39] = 0xF4 ∧
     (∀ bytes : List Byte, crc16Bytes (bytes ++ wordBytes (crc16Bytes bytes)) = 0) ∧
     (∀ bytes : List Byte, crc8 (bytes ++ [crc8 bytes]) = 0)) ∧
  ((∀ (s : State) (p : Stream) (l : Lookup), (OutMessage.header (s.headerOf p l)).encode.length =
     3 + (match l.selection with
       | .fallback => 19
       | .pure _ => 25
       | .degraded _ => 25
       | .blend _ _ _ => 33) ∧
     (OutMessage.header (s.headerOf p l)).encode[1]? = some ((match l.selection with
       | .fallback => 19
       | .pure _ => 25
       | .degraded _ => 25
       | .blend _ _ _ => 33) : Byte)) ∧
   (∀ (tag : Byte) (r : Nat) (ks : List Knot), ks.length ≤ 64 →
     (OutMessage.row tag r ks).encode.length = 5 + 2 * ks.length ∧
     (OutMessage.row tag r ks).encode[1]? = some (BitVec.ofNat 8 (2 + 2 * ks.length) : Byte)) ∧
   (∀ m : OutMessage, crc8 m.encode = 0)) ∧
  (∀ (x : Port) (ms : List OutMessage), ({ x with out := x.out ++ ms } : Port).laneBytes
     = x.laneBytes ++ ms.flatMap (fun m => m.encode ++ [0x00])) ∧
  (∀ x : Port, x.out = [] → (x.cut = [] → x.laneBytes = []) ∧ (x.cut ≠ [] → x.laneBytes = x.cut ++ [0x00])) ∧
  (∀ w : Word, wordBytes w = [BitVec.ofNat 8 (w.toNat / 256), BitVec.ofNat 8 (w.toNat % 256)]) ∧
  (∀ k : Knot, knotBytes k = [BitVec.ofNat 8 (k.toNat / 256), BitVec.ofNat 8 (k.toNat % 256)]) ∧
  (∀ ks : List Knot, crc16 ks = crc16Bytes (ks.flatMap knotBytes)) ∧
  (let sent := fun body : List Byte => body ++ [crc8 body]
   let anchor := fun (code : Byte) (item : Option AnchorItem) => match item with
     | none => ([] : List Byte)
     | some a => [code, BitVec.ofNat 8 a.handle.index.val, a.handle.revision] ++ wordBytes a.label ++ [(match a.origin with
         | .host => 0x00
         | .baseline n => BitVec.ofNat 8 (0x10 + n.val) : Byte)]
   (∀ (tag : Byte) (status : EndStatus), (OutMessage.ended tag status).encode = sent [0x83, tag, match status with
     | .complete => 0x00
     | .degraded => 0x01
     | .fallback => 0x02
     | .cancelled => 0x03
     | .stalled => 0x04
     | .damaged => 0x05
     | .queueFull => 0x06
     | .range => 0x07
     | .notReady => 0x08
     | .unconfigured => 0x09
     | .disabled => 0x0A]) ∧
   (∀ n : Notice, (OutMessage.notice n).encode = sent (match n with
     | .ready => [0x84, 0x01, 0xFF]
     | .badMessage => [0x84, 0x02, 0xFF]
     | .creditOverflow => [0x84, 0x03, 0xFF]
     | .unknownTag tag => [0x84, 0x04, tag]
     | .tagInUse tag => [0x84, 0x05, tag]
     | .resetDone => [0x84, 0x06, 0xFF])) ∧
   (∀ (tag : Byte) (r : Nat) (ks : List Knot), (OutMessage.row tag r ks).encode =
     sent ([0x82, BitVec.ofNat 8 (2 + 2 * ks.length), tag, BitVec.ofNat 8 r] ++ ks.flatMap knotBytes)) ∧
   (∀ h : Header,
     let items : List Byte :=
       [0x01, h.tag, BitVec.ofNat 8 h.stream.val]
         ++ [(0x02 : Byte), (match h.kind with
             | .pure => 0x00
             | .blend => 0x01
             | .degraded => 0x02
             | .fallback => 0x03 : Byte)]
         ++ [(0x03 : Byte)] ++ wordBytes h.generation ++ wordBytes h.counter
         ++ [0x04, BitVec.ofNat 8 h.geometry.columns, BitVec.ofNat 8 h.geometry.rows, BitVec.ofNat 8 h.geometry.channels,
             (match h.format with
             | .uq1_11 => 0x00
             | .uq2_10 => 0x01
             | .uq3_9 => 0x02 : Byte)]
         ++ [0x05, BitVec.ofNat 8 h.firstRow, BitVec.ofNat 8 h.rowCount]
         ++ anchor 0x06 h.anchorA ++ anchor 0x07 h.anchorB
         ++ (match h.weight with
             | some w => [0x08, w]
             | none => [])
         ++ [0xFF]
     (OutMessage.header h).encode = sent ([0x81, BitVec.ofNat 8 items.length] ++ items)))

/-! ### Views -/

/-- CONFIGURE_VIEW: its checks in order, VIEW_BUSY with its data; accepted, only the configuration is written. -/
def Obligations.ConfigureViewSetsEmptyView : Prop :=
  ∀ (s : State) (tag b c r ch f : Byte), s.engine = .idle →
    (4 ≤ b.toNat → exec (.configureView tag b c r ch f) s = .next (answered s 8 tag 0x20 .range [])) ∧
    (∀ n : Stream, StreamByte b n →
      ((¬ ∃ g, GridBytes c r ch g) → exec (.configureView tag b c r ch f) s = .next (answered s 8 tag 0x20 .range [])) ∧
      ((¬ ∃ fmt, FormatByte f fmt) → exec (.configureView tag b c r ch f) s = .next (answered s 8 tag 0x20 .range [])) ∧
      (∀ g fmt, GridBytes c r ch g → FormatByte f fmt →
        (s.views[n].anchors ≠ [] ∨ s.lists[n].edits ≠ [] ∨ s.lists[n].target ≠ none →
          exec (.configureView tag b c r ch f) s = .next (answered s 8 tag 0x20 .viewBusy
            [byteOf s.views[n].anchors.length, byteOf s.lists[n].edits.length,
             if s.lists[n].target.isSome then 1 else 0])) ∧
        (s.views[n].anchors = [] → s.lists[n].edits = [] → s.lists[n].target = none →
          exec (.configureView tag b c r ch f) s = .next (answered
            { s with views := s.views.set n { s.views[n] with config := some { geometry := g, format := fmt } } }
            8 tag 0x20 .ok ([b, c, r, ch, f] ++ wordBytes s.views[n].generation)))))

/-- The plateau edges of R53 and the validity of a layout by the conditions of R54; and each edit on a projected view in key
order: where an ATTACH inserts, what a DETACH removes, where a MOVE puts the anchor it names, the list staying in key
order through any edits. -/
def Obligations.LayoutAndProjectedOrder : Prop :=
  ((∀ a : Anchor, a.lower = (if a.plateau.toNat ≤ a.key.toNat then a.key.toNat - a.plateau.toNat else 0) ∧
     a.upper = (if a.key.toNat + a.plateau.toNat ≤ 65535 then a.key.toNat + a.plateau.toNat else 65535)) ∧
   (∀ (s : State) (c : ViewConfig) (as : List Anchor), s.layoutFault c as = none ↔
     (as.length ≤ 8 ∧ (as.map (fun a => a.key)).Nodup ∧
       (∀ i a b, as[i]? = some a → as[i + 1]? = some b → a.upper < b.lower) ∧
       (as.map (fun a => a.handle.index)).Nodup ∧
       ∀ a ∈ as, ∃ p, s.entries[a.handle.index].profile = some p ∧ p.geometry = c.geometry ∧ p.format = c.format))) ∧
  (∀ as : List Anchor, as.Pairwise (fun a b => a.key.toNat ≤ b.key.toNat) →
     (∀ h k p, ∃ l r, as = l ++ r ∧ applyEdit as (.attach h k p) = l ++ [{ handle := h, key := k, plateau := p }] ++ r ∧
       (∀ x ∈ l, x.key.toNat ≤ k.toNat) ∧ ∀ x ∈ r, k.toNat < x.key.toNat) ∧
     (∀ h, applyEdit as (.detach h) = as.filter (fun a => a.handle.index ≠ h.index)) ∧
     (∀ h k p x, x ∈ as → x.handle.index = h.index → (as.map (fun a => a.handle.index)).Nodup →
       ∃ l r, as.filter (fun a => a.handle.index ≠ h.index) = l ++ r ∧
         applyEdit as (.move h k p) = l ++ [{ x with key := k, plateau := p }] ++ r ∧
         (∀ y ∈ l, y.key.toNat ≤ k.toNat) ∧ ∀ y ∈ r, k.toNat < y.key.toNat) ∧
     (∀ es, (applyEdits as es).Pairwise (fun a b => a.key.toNat ≤ b.key.toNat)) ∧
     (∀ (s : State) (n : Stream), s.views[n].anchors = as → s.projected n = s.lists[n].edits.foldl applyEdit as))

/-- QUERY_VIEW, QUERY_EDITS and QUERY_POINTS report what the blocks hold, and change only the window and the response. The
codes of format and polarity in the answers are those of section 11.1. -/
def Obligations.ViewEditPointQueriesReport : Prop :=
  (∀ f : Format, f.byte = match f with
    | .uq1_11 => 0x00
    | .uq2_10 => 0x01
    | .uq3_9 => 0x02) ∧
  (∀ p : Polarity, p.byte = match p with
    | .rising => 0x00
    | .falling => 0x01) ∧
  ∀ (s : State) (tag b : Byte), s.engine = .idle →
    (4 ≤ b.toNat → exec (.queryView tag b) s = .next (answered s 4 tag 0x21 .range []) ∧
      exec (.queryEdits tag b) s = .next (answered s 4 tag 0x28 .range [])) ∧
    (∀ n : Stream, StreamByte b n → s.views[n].anchors.length ≤ 8 →
      ∃ mask : Byte, exec (.queryView tag b) s = .next (answered s 4 tag 0x21 .ok
        ([b] ++ (match s.views[n].config with
                 | some c => [1, byteOf c.geometry.columns, byteOf c.geometry.rows, byteOf c.geometry.channels,
                              c.format.byte]
                 | none => [0, 0, 0, 0, 0])
          ++ wordBytes s.views[n].generation ++ [byteOf s.views[n].anchors.length]
          ++ s.views[n].anchors.flatMap (fun a => [byteOf a.handle.index.val, a.handle.revision, hiByte a.key,
                                                   loByte a.key, hiByte a.plateau, loByte a.plateau])
          ++ [mask])) ∧
        ∀ i, i < 8 → mask.getLsbD i = (match s.views[n].anchors[i]? with
          | some a => s.entries[a.handle.index].damaged
          | none => false)) ∧
    (∀ n : Stream, StreamByte b n → exec (.queryEdits tag b) s = .next (answered s 4 tag 0x28 .ok
      ([b] ++ (match s.lists[n].target with
               | some t => [1, hiByte t, loByte t]
               | none => [0, 0, 0])
        ++ [byteOf s.lists[n].edits.length]
        ++ s.lists[n].edits.flatMap (fun e => match e with
            | .attach h k p => [1, byteOf h.index.val, h.revision, hiByte k, loByte k, hiByte p, loByte p]
            | .detach h => [2, byteOf h.index.val, h.revision, 0, 0, 0, 0]
            | .move h k p => [3, byteOf h.index.val, h.revision, hiByte k, loByte k, hiByte p, loByte p])))) ∧
    exec (.queryPoints tag) s = .next (answered s 3 tag 0x33 .ok
      ([(0 : Stream), 1, 2, 3].flatMap (fun n => [byteOf s.points[n].source.val, s.points[n].polarity.byte,
          byteOf s.points[n].prescale, byteOf s.points[n].edgeCount, hiByte s.points[n].counter,
          loByte s.points[n].counter])
        ++ [(0 : Stream), 1, 2, 3].map (fun n => if s.lines[n] = .high then 1 else 0)))

/-! ### Edits and commits -/

/-- An accepted ATTACH, DETACH or MOVE joins the tail of its stream's list and takes one pending reference; the view, its
generation and the entry's state stay. -/
def Obligations.AcceptedEditJoinsList : Prop :=
  ∀ (s : State) (tag b : Byte) (h : RawHandle) (k p : Word) (n : Stream) (i : EntryIndex) (c : ViewConfig),
    s.engine = .idle → StreamByte b n → s.views[n].config = some c → s.lists[n].target = none →
    s.lists[n].edits.length < 8 → Names s h i →
    let after := fun (e : Edit) =>
      { s with lists := s.lists.set n { s.lists[n] with edits := s.lists[n].edits ++ [e] }
               entries := s.entries.set i { s.entries[i] with pendingRefs := s.entries[i].pendingRefs + 1 } }
    let data := fun (e : Edit) => [b, byteOf (s.lists[n].edits.length + 1),
      byteOf (applyEdits s.views[n].anchors (s.lists[n].edits ++ [e])).length]
    let named := fun (as : List Anchor) => ∃ a ∈ as, a.handle.index = i
    (∀ pr, s.entries[i].state = .staged ∨ s.entries[i].state = .live → s.entries[i].damaged = false →
      s.entries[i].profile = some pr → pr.geometry = c.geometry → pr.format = c.format → ¬ named (s.projected n) →
      exec (.attach tag b h k p) s = .next (answered (after (.attach { index := i, revision := h.revision } k p)) 10
        tag 0x22 .ok (data (.attach { index := i, revision := h.revision } k p)))) ∧
    (named (s.projected n) →
      exec (.detach tag b h) s = .next (answered (after (.detach { index := i, revision := h.revision })) 6
        tag 0x23 .ok (data (.detach { index := i, revision := h.revision }))) ∧
      exec (.move tag b h k p) s = .next (answered (after (.move { index := i, revision := h.revision } k p)) 10
        tag 0x24 .ok (data (.move { index := i, revision := h.revision } k p))))

/-- ATTACH, DETACH and MOVE refused: the five shared checks in order, then those of each kind; nothing changes. -/
def Obligations.EditsRefusedInOrder : Prop :=
  ∀ (s : State) (tag b : Byte) (h : RawHandle) (k p : Word), s.engine = .idle →
    (∀ (req : Instr) (len : Nat) (code : Byte),
      (req, len, code) ∈ [(.attach tag b h k p, 10, 0x22), (.detach tag b h, 6, 0x23), (.move tag b h k p, 10, 0x24)] →
      (4 ≤ b.toNat → exec req s = .next (answered s len tag code .range [])) ∧
      (∀ n : Stream, StreamByte b n →
        (s.views[n].config = none → exec req s = .next (answered s len tag code .unconfigured [])) ∧
        (∀ c, s.views[n].config = some c →
          (∀ t, s.lists[n].target = some t → exec req s = .next (answered s len tag code .armed (wordBytes t))) ∧
          (s.lists[n].target = none → 8 ≤ s.lists[n].edits.length →
            exec req s = .next (answered s len tag code .listFull [])) ∧
          (∀ r, s.lists[n].target = none → s.lists[n].edits.length < 8 → HandleRefused s h r →
            exec req s = .next (answered s len tag code r []))))) ∧
    (∀ (n : Stream) (i : EntryIndex) (c : ViewConfig), StreamByte b n → s.views[n].config = some c →
      s.lists[n].target = none → s.lists[n].edits.length < 8 → Names s h i →
      (s.entries[i].state ≠ .staged → s.entries[i].state ≠ .live →
        exec (.attach tag b h k p) s = .next (answered s 10 tag 0x22 .state [])) ∧
      (s.entries[i].state = .staged ∨ s.entries[i].state = .live →
        (s.entries[i].damaged = true → exec (.attach tag b h k p) s = .next (answered s 10 tag 0x22 .damaged [])) ∧
        (∀ pr, s.entries[i].damaged = false → s.entries[i].profile = some pr →
          (pr.geometry ≠ c.geometry ∨ pr.format ≠ c.format →
            exec (.attach tag b h k p) s = .next (answered s 10 tag 0x22 .geometry [])) ∧
          (pr.geometry = c.geometry → pr.format = c.format → (∃ a ∈ s.projected n, a.handle.index = i) →
            exec (.attach tag b h k p) s = .next (answered s 10 tag 0x22 .duplicate [])))) ∧
      ((∀ a ∈ s.projected n, a.handle.index ≠ i) →
        exec (.detach tag b h) s = .next (answered s 6 tag 0x23 .notMember []) ∧
        exec (.move tag b h k p) s = .next (answered s 10 tag 0x24 .notMember [])))

/-- An accepted COMMIT arms every stream of its mask for its own target and changes nothing else; its answer lists the
targets in ascending stream order (the model's choice, log entry 17). -/
def Obligations.CommitArmsEveryStream : Prop :=
  ∀ (s : State) (tag m kind : Byte) (N : Word) (mask : StreamMask) (T : Stream → Word),
    s.engine = .idle → MaskByte m mask → mask ≠ 0 →
    (∀ n, inMask mask n = true → CommitTarget kind N s.points[n].counter (T n) ∧ CommitPasses s n (T n)) →
    ∃ t, exec (.commit tag m kind N) s = .next t ∧
      t = { answered s 7 tag 0x25 .ok ([m] ++ (maskStreams mask).flatMap (fun n => wordBytes (T n))) with
              lists := t.lists } ∧
      ∀ n : Stream, t.lists[n] = if inMask mask n then { s.lists[n] with target := some (T n) } else s.lists[n]

/-- A refused COMMIT arms nothing: RANGE with no stream for the mask or the target kind; else the first failing check of
the lowest failing stream, with the data of R77 (the layout of a LAYOUT refusal's data is the model's choice, log entry
17). -/
def Obligations.CommitRefusedAllOrNothing : Prop :=
  ∀ (s : State) (tag m kind : Byte) (N : Word), s.engine = .idle →
    (16 ≤ m.toNat ∨ m = 0 ∨ 2 ≤ kind.toNat → exec (.commit tag m kind N) s = .next (answered s 7 tag 0x25 .range [])) ∧
    (∀ (mask : StreamMask) (n : Stream) (T : Word), MaskByte m mask → inMask mask n = true →
      CommitTarget kind N s.points[n].counter T →
      (∀ j : Stream, j < n → inMask mask j = true → ∃ U, CommitTarget kind N s.points[j].counter U ∧ CommitPasses s j U) →
      (s.views[n].config = none →
        exec (.commit tag m kind N) s = .next (answered s 7 tag 0x25 .unconfigured [byteOf n.val])) ∧
      (∀ c, s.views[n].config = some c →
        (s.lists[n].edits = [] →
          exec (.commit tag m kind N) s = .next (answered s 7 tag 0x25 .nothingPending [byteOf n.val])) ∧
        (s.lists[n].edits ≠ [] →
          (∀ a, s.lists[n].target = some a →
            exec (.commit tag m kind N) s = .next (answered s 7 tag 0x25 .armed ([byteOf n.val] ++ wordBytes a))) ∧
          (s.lists[n].target = none →
            (∀ h, FirstDamagedAttach s s.lists[n].edits h → exec (.commit tag m kind N) s =
              .next (answered s 7 tag 0x25 .damaged [byteOf n.val, byteOf h.index.val, h.revision])) ∧
            (NoDamagedAttach s s.lists[n].edits →
              (8 < (s.projected n).length → exec (.commit tag m kind N) s =
                .next (answered s 7 tag 0x25 .layout [byteOf n.val, 1, byteOf (s.projected n).length])) ∧
              (∀ x y, (s.projected n).length ≤ 8 → FirstCrowded (s.projected n) x y →
                exec (.commit tag m kind N) s = .next (answered s 7 tag 0x25 .layout ([byteOf n.val, 3]
                  ++ wordBytes x.key ++ wordBytes x.plateau ++ wordBytes y.key ++ wordBytes y.plateau))) ∧
              (s.layoutFault c (s.projected n) = none →
                (T - s.points[n].counter = 0 ∨ 32768 ≤ (T - s.points[n].counter).toNat) →
                exec (.commit tag m kind N) s = .next (answered s 7 tag 0x25 .tooLate
                  ([byteOf n.val] ++ wordBytes s.points[n].counter ++ wordBytes T))))))))

/-- The target distance of R75, and its test in a COMMIT whose other checks pass: a distance of 1 to 32767 arms, 0 and 32768
to 65535 are TOO_LATE for the whole mask, with the stream that failed, and NEXT always passes. -/
def Obligations.TargetDistanceDecidesCommit : Prop :=
  (∀ C T : Word, (T - C).toNat = (T.toNat + 65536 - C.toNat) % 65536) ∧
  (∀ C : Word, ((C + 1) - C).toNat = 1) ∧
  (∀ (C N : Word) (d : Nat) (passes : Bool), (C.toNat, N.toNat, d, passes) ∈
      [(100, 101, 1, true), (100, 100, 0, false), (100, 99, 65535, false), (100, 32867, 32767, true),
       (100, 32868, 32768, false), (65530, 4, 10, true), (5, 65530, 65525, false)] →
    (N - C).toNat = d ∧ (passes = true ↔ 1 ≤ d ∧ d ≤ 32767)) ∧
  (∀ (s : State) (tag m kind : Byte) (N : Word) (mask : StreamMask) (n : Stream) (c : ViewConfig) (T : Word),
    s.engine = .idle → MaskByte m mask → inMask mask n = true → CommitTarget kind N s.points[n].counter T →
    s.views[n].config = some c → s.lists[n].edits ≠ [] → s.lists[n].target = none →
    NoDamagedAttach s s.lists[n].edits → s.layoutFault c (s.projected n) = none →
    (mask = streamBit n → 1 ≤ (T - s.points[n].counter).toNat → (T - s.points[n].counter).toNat ≤ 32767 →
      exec (.commit tag m kind N) s = .next (answered
        { s with lists := s.lists.set n { s.lists[n] with target := some T } } 7 tag 0x25 .ok ([m] ++ wordBytes T))) ∧
    ((∀ j : Stream, j < n → inMask mask j = true → ∃ U, CommitTarget kind N s.points[j].counter U ∧ CommitPasses s j U) →
      (T - s.points[n].counter).toNat = 0 ∨ 32768 ≤ (T - s.points[n].counter).toNat →
      exec (.commit tag m kind N) s = .next (answered s 7 tag 0x25 .tooLate
        ([byteOf n.val] ++ wordBytes s.points[n].counter ++ wordBytes T))))

/-- WITHDRAW disarms the armed lists of its mask and keeps their edits. DISCARD empties the UNARMED lists of its mask,
releases the pending reference of every edit removed, and leaves the armed ones alone. The answers name the streams. -/
def Obligations.WithdrawAndDiscard : Prop :=
  (∀ (s : State) (tag m : Byte), s.engine = .idle →
     (16 ≤ m.toNat → exec (.withdraw tag m) s = .next (answered s 4 tag 0x26 .range [])) ∧
     (∀ mask, MaskByte m mask → ∃ (t : State) (w : StreamMask), exec (.withdraw tag m) s = .next t ∧
       t = { answered s 4 tag 0x26 .ok [w.setWidth 8] with lists := t.lists } ∧
       (∀ n : Stream, t.lists[n] = if inMask mask n then { s.lists[n] with target := none } else s.lists[n]) ∧
       ∀ n : Stream, inMask w n = (inMask mask n && s.lists[n].target.isSome))) ∧
  (∀ (s : State) (tag m : Byte), s.engine = .idle →
     (16 ≤ m.toNat → exec (.discard tag m) s = .next (answered s 4 tag 0x27 .range [])) ∧
     (∀ mask, MaskByte m mask → ∃ (t : State) (d a : StreamMask),
       let gone := fun n : Stream => if inMask mask n ∧ s.lists[n].target = none then s.lists[n].edits else []
       exec (.discard tag m) s = .next t ∧
       t = { answered s 4 tag 0x27 .ok [d.setWidth 8,
               byteOf ((gone 0).length + (gone 1).length + (gone 2).length + (gone 3).length), a.setWidth 8] with
               lists := t.lists, entries := t.entries } ∧
       (∀ n : Stream, t.lists[n] = if inMask mask n ∧ s.lists[n].target = none then { edits := [], target := none }
                                   else s.lists[n]) ∧
       (∀ n : Stream, inMask d n = decide (gone n ≠ []) ∧ inMask a n = (inMask mask n && s.lists[n].target.isSome)) ∧
       ∀ i : EntryIndex, t.entries[i] = { s.entries[i] with
         pendingRefs := s.entries[i].pendingRefs
           - (gone 0 ++ gone 1 ++ gone 2 ++ gone 3).countP (fun e => e.handle.index = i) }))

/-! ### Publication points -/

/-- POINT makes one point on each stream of its mask, edge counts aside, and applies each list that was due; its answer lists
the counters in ascending stream order (the model's choice, log entry 17). -/
def Obligations.PointMakesPoints : Prop :=
  ∀ (s : State) (tag m : Byte), s.engine = .idle →
    (16 ≤ m.toNat → exec (.point tag m) s = .next (answered s 4 tag 0x30 .range [])) ∧
    (∀ mask, MaskByte m mask → ∃ t, exec (.point tag m) s = .next t ∧
      t = { answered s 4 tag 0x30 .ok ([m] ++ (maskStreams mask).flatMap (fun n => wordBytes (s.points[n].counter + 1)))
              with points := t.points, views := t.views, lists := t.lists, entries := t.entries, alerts := t.alerts } ∧
      (∀ n : Stream, t.points[n] = if inMask mask n then { s.points[n] with counter := s.points[n].counter + 1 }
                                   else s.points[n]) ∧
      Published s t (fun n => inMask mask n = true))

/-- An edge is recorded and offered to every stream of that source and polarity; at the prescale the edge count returns to
0 and a point is made. That a BOUNDARY_EDGE to the level the line already has changes nothing is the model's choice (log
entry 7). -/
def Obligations.EdgeCountsTowardPoints : Prop :=
  ∀ (s : State) (line : Stream) (level : LineLevel),
    (s.lines[line] = level → exec (.boundaryEdge line level) s = .next s) ∧
    (s.lines[line] ≠ level →
      let counts := fun n : Stream => s.points[n].source = line ∧ (s.points[n].polarity = .rising ↔ level = .high)
      ∃ t, exec (.boundaryEdge line level) s = .next t ∧
        t = { s with lines := s.lines.set line level, points := t.points, views := t.views, lists := t.lists,
                     entries := t.entries, alerts := t.alerts } ∧
        (∀ n : Stream,
          (counts n → s.points[n].edgeCount + 1 = s.points[n].prescale →
            t.points[n] = { s.points[n] with edgeCount := 0, counter := s.points[n].counter + 1 }) ∧
          (counts n → s.points[n].edgeCount + 1 ≠ s.points[n].prescale →
            t.points[n] = { s.points[n] with edgeCount := s.points[n].edgeCount + 1 }) ∧
          (¬ counts n → t.points[n] = s.points[n])) ∧
        Published s t (fun n => counts n ∧ s.points[n].edgeCount + 1 = s.points[n].prescale))

/-- The apply of one stream's list, in the event of its point: each entry the list names loses the list's pending
references, is a member exactly where the applied view holds it, and is LIVE or STAGED by its membership; no other entry
changes. -/
def Obligations.ApplySettlesNamedEntries : Prop :=
  ∀ (s : State) (tag m : Byte) (n : Stream), s.engine = .idle → RecordLaw s → MaskByte m (streamBit n) → DueOn s n →
    ∃ t, exec (.point tag m) s = .next t ∧
      t.views[n].anchors = s.projected n ∧ t.views[n].generation = s.views[n].generation + 1 ∧
      t.views[n].config = s.views[n].config ∧
      ∀ i : EntryIndex,
        ((∃ e ∈ s.lists[n].edits, e.handle.index = i) →
          ∃ mem : StreamMask, inMask mem n = decide (∃ a ∈ s.projected n, a.handle.index = i) ∧
            (∀ k : Stream, k ≠ n → inMask mem k = inMask s.entries[i].membership k) ∧
            t.entries[i] = { s.entries[i] with
              membership := mem
              state := if mem = 0 then .staged else .live
              pendingRefs := s.entries[i].pendingRefs - s.lists[n].edits.countP (fun e => e.handle.index = i) }) ∧
        ((∀ e ∈ s.lists[n].edits, e.handle.index ≠ i) → t.entries[i] = s.entries[i])

/-- SET_POINTS: its checks in order; accepted, it writes the settings, sets the edge count to 0 and keeps the counter.
CLEAR_COUNTS sets counter and edge count to 0 on the UNARMED streams of its mask and leaves the ARMED ones. -/
def Obligations.SetPointsAndClearCounts : Prop :=
  (∀ (s : State) (tag b src pol pre : Byte), s.engine = .idle →
     (4 ≤ b.toNat ∨ 4 ≤ src.toNat ∨ 2 ≤ pol.toNat ∨ pre.toNat = 0 ∨ 16 < pre.toNat →
       exec (.setPoints tag b src pol pre) s = .next (answered s 7 tag 0x31 .range [])) ∧
     (∀ (n line : Stream) (polarity : Polarity), StreamByte b n → StreamByte src line →
       (polarity = .rising ∧ pol = 0) ∨ (polarity = .falling ∧ pol = 1) → 1 ≤ pre.toNat → pre.toNat ≤ 16 →
       (∀ a, s.lists[n].target = some a →
         exec (.setPoints tag b src pol pre) s = .next (answered s 7 tag 0x31 .armed (wordBytes a))) ∧
       (s.lists[n].target = none → exec (.setPoints tag b src pol pre) s = .next (answered
         { s with points := s.points.set n { source := line, polarity := polarity, prescale := pre.toNat, edgeCount := 0,
                                             counter := s.points[n].counter } }
         7 tag 0x31 .ok ([b, src, pol, pre] ++ wordBytes s.points[n].counter))))) ∧
  (∀ (s : State) (tag m : Byte), s.engine = .idle →
     (16 ≤ m.toNat → exec (.clearCounts tag m) s = .next (answered s 4 tag 0x32 .range [])) ∧
     (∀ mask, MaskByte m mask → ∃ (t : State) (c a : StreamMask), exec (.clearCounts tag m) s = .next t ∧
       t = { answered s 4 tag 0x32 .ok [c.setWidth 8, a.setWidth 8] with points := t.points } ∧
       (∀ n : Stream, t.points[n] = if inMask mask n ∧ s.lists[n].target = none
         then { s.points[n] with edgeCount := 0, counter := 0 } else s.points[n]) ∧
       ∀ n : Stream, inMask c n = (inMask mask n && s.lists[n].target.isNone) ∧
         inMask a n = (inMask mask n && s.lists[n].target.isSome)))

/-! ### Selection and blending -/

/-- The choice of a key by its zone over a valid layout, with the weight in a gap; and the selection a choice gives, by the
damaged flags of the entries it names, with its references. -/
def Obligations.SelectionByZoneAndDamage : Prop :=
  ((∀ k, choose [] k = .empty) ∧
   ∀ (as : List Anchor) (k : Nat), (∀ (i : Nat) (a b : Anchor), as[i]? = some a → as[i + 1]? = some b → a.upper < b.lower) →
     (∀ a, as[0]? = some a → k ≤ a.upper → choose as k = .single a) ∧
     (∀ a, as[as.length - 1]? = some a → a.lower ≤ k → choose as k = .single a) ∧
     (∀ (i : Nat) (a : Anchor), as[i]? = some a → a.lower ≤ k → k ≤ a.upper → choose as k = .single a) ∧
     (∀ (i : Nat) (a b : Anchor), as[i]? = some a → as[i + 1]? = some b → a.upper < k → k < b.lower →
       let w := 256 * (k - a.upper) / (b.lower - a.upper)
       w ≤ 255 ∧ (w = 0 → choose as k = .single a) ∧ (1 ≤ w → choose as k = .pair a b w))) ∧
  (∀ s : State, s.selectionOf .empty = .fallback ∧
     (∀ a : Anchor, s.selectionOf (.single a) =
       if s.entries[a.handle.index].damaged then .fallback else .pure a.handle) ∧
     (∀ (a b : Anchor) (w : Nat), s.selectionOf (.pair a b w) =
       match s.entries[a.handle.index].damaged, s.entries[b.handle.index].damaged with
       | false, false => .blend a.handle b.handle (BitVec.ofNat 8 w)
       | true, false => .degraded b.handle
       | false, true => .degraded a.handle
       | true, true => .fallback) ∧
     (∀ (n : Stream) (key : Word), s.select n key = s.selectionOf (choose s.views[n].anchors key.toNat)) ∧
     ∀ (a b : Handle) (w : Byte), (Selection.pure a).sources = [a.index] ∧ (Selection.degraded a).sources = [a.index] ∧
       (Selection.blend a b w).sources = [a.index, b.index] ∧ Selection.fallback.sources = [])

/-- A blended knot is the rounded mean of R112, between its two knots, equal to them where they are equal, and never
turning back as the weight rises. -/
def Obligations.BlendLiesBetweenItsKnots : Prop :=
  ∀ (w : Byte) (a b : Knot), 1 ≤ w.toNat →
    (blendKnot w a b).toNat = ((256 - w.toNat) * a.toNat + w.toNat * b.toNat + 128) / 256 ∧
    min a.toNat b.toNat ≤ (blendKnot w a b).toNat ∧ (blendKnot w a b).toNat ≤ max a.toNat b.toNat ∧
    (a = b → blendKnot w a b = a) ∧
    ∀ v : Byte, w.toNat ≤ v.toNat →
      (a.toNat ≤ b.toNat → (blendKnot w a b).toNat ≤ (blendKnot v a b).toNat) ∧
      (b.toNat ≤ a.toNat → (blendKnot v a b).toNat ≤ (blendKnot w a b).toNat)

/-- The knots of a row: those of anchor A's entry, the blend of both entries' knots, or unity, in ascending index order;
and a row whose reads meet a faulty word names the entry that holds the first one. -/
def Obligations.RowIsMadeOfItsSelection : Prop :=
  ∀ (s : State) (l : Lookup) (r : Nat),
    let first := r * (l.geometry.columns * l.geometry.channels)
    let count := l.geometry.columns * l.geometry.channels
    (∀ a, l.selection = .pure a ∨ l.selection = .degraded a →
      (AllGood s a.index first count → s.rowKnots l r = .ok (knotValues s a.index first count)) ∧
      (∀ j, FirstFault s a.index first count j → s.rowKnots l r = .error a.index)) ∧
    (∀ a b w, l.selection = .blend a b w →
      (AllGood s a.index first count → AllGood s b.index first count → s.rowKnots l r = .ok
        ((List.range' first count).map (fun j =>
          blendKnot w (s.readKnot a.index j).value (s.readKnot b.index j).value))) ∧
      (∀ j, FirstFault s a.index first count j → (∀ k, first ≤ k → k < j → (s.readKnot b.index k).good = true) →
        s.rowKnots l r = .error a.index) ∧
      (∀ j, FirstFault s b.index first count j → (∀ k, first ≤ k → k ≤ j → (s.readKnot a.index k).good = true) →
        s.rowKnots l r = .error b.index)) ∧
    (l.selection = .fallback → s.rowKnots l r = .ok (List.replicate count (match l.format with
      | .uq1_11 => 2048
      | .uq2_10 => 1024
      | .uq3_9 => 512)))

/-- The references a selection holds are released once each; a DRAINING entry that loses its last one is freed, its pages
joining the tail of the free list; where one event frees two DRAINING entries, which of them hands back its pages first is
the model's choice (log entry 15), the rules giving one event and no order within it. -/
def Obligations.ReleaseFreesDrainedEntries : Prop :=
  ∀ (s : State) (sel : Selection), sel.sources.Nodup →
    let freed := fun i : EntryIndex => s.entries[i].state = .draining ∧ s.entries[i].lookupRefs ≤ 1
    s.releaseRefs sel = { s with entries := (s.releaseRefs sel).entries, freePages := (s.releaseRefs sel).freePages } ∧
    (s.releaseRefs sel).freePages = s.freePages
      ++ (sel.sources.filter (fun i => freed i)).flatMap (fun i => s.entries[i].pages) ∧
    ∀ i : EntryIndex,
      (i ∈ sel.sources → freed i → (s.releaseRefs sel).entries[i] = Entry.freed s.entries[i].revision) ∧
      (i ∈ sel.sources → ¬ freed i →
        (s.releaseRefs sel).entries[i] = { s.entries[i] with lookupRefs := s.entries[i].lookupRefs - 1 }) ∧
      (i ∉ sel.sources → (s.releaseRefs sel).entries[i] = s.entries[i])

/-! ### The lookup link -/

/-- A message in its ranges, sent whole to a lane that waits for a kind byte, is framed, checked and taken as that
message: its bytes, those of section 11.3 with their check byte, read back as the message, and the port acts on it and
waits again. That a row stands for the arrival of its message's bytes (log entry 9), and that a LINK_MESSAGE_HELD row on a
port with no reset pending is an ordinary message (log entry 27), are the model's reading. -/
def Obligations.LinkMessageBytesReadBack : Prop :=
  (∀ m : LinkMessage, m.encode =
    let body : List Byte := match m with
      | .lookup tag key first count => [0x11, tag] ++ wordBytes key ++ [first, count]
      | .credit n => [0x12, n]
      | .cancel tag => [0x13, tag]
      | .reset => [0x14]
    body ++ [crc8 body]) ∧
  (∀ m : LinkMessage, parseMessage m.encode = some m) ∧
  ∀ (s : State) (p : Stream), s.ports[p].framing = .waiting →
    (∀ m : LinkMessage, m.fieldsOk = true → s.receive p m.encode = s.arrive p m ∧
      exec (.linkMessageHeld p m) s = .next (s.arrive p m)) ∧
    (∀ tag key first count, tag.toNat < 16 →
      exec (.lookup p tag key first count) s = .next (s.arrive p (.lookup tag key first count))) ∧
    (∀ n, 1 ≤ n.toNat → n.toNat ≤ 4 → exec (.credit p n) s = .next (s.arrive p (.credit n))) ∧
    (∀ tag, tag.toNat < 16 → exec (.cancel p tag) s = .next (s.arrive p (.cancel tag))) ∧
    exec (.linkReset p) s = .next (s.arrive p .reset)

/-- A LOOKUP refused: one answer, by the first check of R121 that fails, and nothing else. -/
def Obligations.LookupRefusedByFirstCheck : Prop :=
  ∀ (s : State) (p : Stream) (tag : Byte) (key : Word) (first count : Byte), Listening s p → tag.toNat < 16 →
    let act := exec (.lookup p tag key first count) s
    (s.ports[p].active = false → act = .next (withMessages s p [.ended tag .notReady])) ∧
    (s.ports[p].active = true →
      (s.ports[p].enabled = false → act = .next (withMessages s p [.ended tag .disabled])) ∧
      (s.ports[p].enabled = true →
        ((∃ l ∈ s.ports[p].queue, l.tag = tag) → act = .next (withMessages s p [.notice (.tagInUse tag)])) ∧
        ((∀ l ∈ s.ports[p].queue, l.tag ≠ tag) →
          (2 ≤ s.ports[p].queue.length → act = .next (withMessages s p [.ended tag .queueFull])) ∧
          (s.ports[p].queue.length < 2 →
            (s.views[p].config = none → act = .next (withMessages s p [.ended tag .unconfigured])) ∧
            (∀ c, s.views[p].config = some c →
              (c.geometry.rows ≤ first.toNat ∨
                (count.toNat ≠ 0 ∧ c.geometry.rows < first.toNat + count.toNat)) →
              act = .next (withMessages s p [.ended tag .range]))))))

/-- A LOOKUP accepted: its record with what it keeps joins the queue, its references are taken, and into an empty queue it
becomes head with its HEADER, the timer judged. -/
def Obligations.LookupAcceptedKeepsItsView : Prop :=
  ∀ (s : State) (p : Stream) (tag : Byte) (key : Word) (first count : Byte) (c : ViewConfig), Listening s p →
    tag.toNat < 16 → s.ports[p].active = true → s.ports[p].enabled = true → (∀ l ∈ s.ports[p].queue, l.tag ≠ tag) →
    s.ports[p].queue.length < 2 → s.views[p].config = some c → first.toNat < c.geometry.rows →
    (count.toNat = 0 ∨ first.toNat + count.toNat ≤ c.geometry.rows) →
    let rows := if count.toNat = 0 then c.geometry.rows - first.toNat else count.toNat
    let sel := s.select p key
    let item := fun h : Handle => (s.entries[h.index].profile).map
      (fun pr => ({ handle := h, label := pr.label, origin := pr.origin } : AnchorItem))
    let l : Lookup :=
      { tag := tag, selection := sel, geometry := c.geometry, format := c.format, generation := s.views[p].generation,
        counter := s.points[p].counter, rowsOwed := List.range' first.toNat rows, granted := none, cancelling := false,
        resetting := false, rowsSent := 0 }
    ∃ t, exec (.lookup p tag key first count) s = .next t ∧
      t = { s with ports := s.ports.set p t.ports[p], entries := t.entries } ∧
      (∀ i : EntryIndex, t.entries[i] =
        { s.entries[i] with lookupRefs := s.entries[i].lookupRefs + sel.sources.countP (fun j => j = i) }) ∧
      (s.ports[p].queue ≠ [] → t.ports[p] = { s.ports[p] with queue := s.ports[p].queue ++ [l] }) ∧
      (s.ports[p].queue = [] → ∃ hd : Header,
        t.ports[p] = { s.ports[p] with
          queue := [l]
          out := s.ports[p].out ++ [.header hd]
          timer := if s.ports[p].credits = 0 ∧ s.ports[p].stallLimit.toNat ≠ 0
                   then .running 0 s.ports[p].stallLimit.toNat else s.ports[p].timer } ∧
        hd.tag = tag ∧ hd.stream = p ∧ hd.kind = sel.kind ∧ hd.generation = s.views[p].generation ∧
        hd.counter = s.points[p].counter ∧ hd.geometry = c.geometry ∧ hd.format = c.format ∧
        hd.firstRow = first.toNat ∧ hd.rowCount = rows ∧ hd.weight = sel.weight ∧
        (∀ h, sel.anchorA = some h → s.entries[h.index].profile.isSome → hd.anchorA = item h) ∧
        (∀ h, sel.anchorB = some h → s.entries[h.index].profile.isSome → hd.anchorB = item h) ∧
        (sel.anchorA = none → hd.anchorA = none) ∧ (sel.anchorB = none → hd.anchorB = none))

/-- CREDIT, CANCEL and the stall timer's expiry on an ACTIVE port. That STALL_EXPIRY acts whatever time has run, and that it
changes nothing where the timer is stopped, are the model's choices (log entries 14 and 7). -/
def Obligations.CreditCancelAndExpiryAct : Prop :=
  (∀ (s : State) (p : Stream) (n : Byte), Listening s p → s.ports[p].active = true → 1 ≤ n.toNat → n.toNat ≤ 4 →
    exec (.credit p n) s = .next (withPort s p { s.ports[p] with
      credits := min (s.ports[p].credits + n.toNat) 4
      timer := .stopped
      out := s.ports[p].out ++ (if 4 < s.ports[p].credits + n.toNat then [.notice .creditOverflow] else []) })) ∧
  (∀ (s : State) (p : Stream) (tag : Byte), Listening s p → s.ports[p].active = true → tag.toNat < 16 →
    ((∀ l ∈ s.ports[p].queue, l.tag ≠ tag) →
      exec (.cancel p tag) s = .next (withMessages s p [.notice (.unknownTag tag)])) ∧
    (∀ h w, s.ports[p].queue = [h, w] → h.tag ≠ tag → w.tag = tag →
      exec (.cancel p tag) s = .next (waitingEnded s p h w [.ended tag .cancelled])) ∧
    (∀ h rest, s.ports[p].queue = h :: rest → h.tag = tag →
      (h.granted = none → exec (.cancel p tag) s = .next (headEnded s p h rest [.ended tag .cancelled])) ∧
      (h.granted ≠ none → exec (.cancel p tag) s = .next (withPort s p
        { s.ports[p] with queue := { h with rowsOwed := [], cancelling := true } :: rest })))) ∧
  (∀ (s : State) (p : Stream),
    (s.ports[p].timer = .stopped → exec (.stallExpiry p) s = .next s) ∧
    (∀ e limit h rest, s.ports[p].timer = .running e limit → s.ports[p].queue = h :: rest →
      exec (.stallExpiry p) s = .next (headEnded s p h rest [.ended h.tag .stalled])))

/-- A link RESET on an ACTIVE port, with and without a granted row; and a message that arrives while a reset waits for its
granted row is held, up to 8 deep. The order in which a reset releases references (the head's, then the waiting one's),
and that the lane does not skip after a ninth message, are the model's choices (log entries 15 and 30). -/
def Obligations.LinkResetClearsThePort : Prop :=
  (∀ (s : State) (p : Stream), Listening s p → s.ports[p].active = true →
    (s.ports[p].queue = [] → exec (.linkReset p) s = .next (withPort s p
      { s.ports[p] with credits := 0, timer := .stopped, out := s.ports[p].out ++ [.notice .resetDone] })) ∧
    (∀ h rest, s.ports[p].queue = h :: rest → h.granted = none → exec (.linkReset p) s = .next (withPort
      ((h :: rest).foldl (fun s l => s.releaseRefs l.selection) s) p { s.ports[p] with
        queue := [], credits := 0, timer := .stopped, out := s.ports[p].out ++ [.notice .resetDone] })) ∧
    (∀ h, s.ports[p].queue = [h] → h.granted ≠ none → exec (.linkReset p) s = .next (withPort s p
      { s.ports[p] with queue := [{ h with rowsOwed := [], resetting := true }], credits := 0, timer := .stopped })) ∧
    (∀ h w, s.ports[p].queue = [h, w] → h.granted ≠ none → exec (.linkReset p) s = .next (withPort
      (s.releaseRefs w.selection) p { s.ports[p] with
        queue := [{ h with rowsOwed := [], resetting := true }], credits := 0, timer := .stopped }))) ∧
  (∀ (s : State) (p : Stream) (m : LinkMessage), s.ports[p].framing = .waiting → s.ports[p].resetting = true →
    m.fieldsOk = true →
    (s.ports[p].held.length < 8 → exec (.linkMessageHeld p m) s = .next (withPort s p
      { s.ports[p] with held := s.ports[p].held ++ [m] })) ∧
    (8 ≤ s.ports[p].held.length → exec (.linkMessageHeld p m) s = .next (withMessages s p [.notice .badMessage])))

/-- A message of an unknown kind, with a failing check or with a field out of range is discarded with one NOTICE on an
ACTIVE port and none on an OFFLINE one, and the lane skips to an idle byte; an OFFLINE port discards CREDIT, CANCEL and
RESET. That an OFFLINE port skips after a field out of range too, and that such a message is discarded at its arrival and
not held while a reset waits, are the model's choices (log entries 12 and 10). -/
def Obligations.DiscardedMessageSkipsToIdle : Prop :=
  (∀ (s : State) (p : Stream), s.ports[p].framing = .waiting →
    let dropped := withPort s p { s.ports[p] with
      framing := .skipping
      out := s.ports[p].out ++ (if s.ports[p].active then [.notice .badMessage] else []) }
    (∀ (kind : Byte) (noise : List Byte), kind.toNat ∉ [0, 0x11, 0x12, 0x13, 0x14] → (∀ b ∈ noise, b ≠ 0) →
      exec (.badMessage p (kind :: noise)) s = .next dropped) ∧
    (∀ (kind : Byte) (middle : List Byte) (check : Byte), messageLength kind = some (middle.length + 2) →
      check ≠ crc8 (kind :: middle) → exec (.badMessage p (kind :: middle ++ [check])) s = .next dropped) ∧
    (∀ m : LinkMessage, m.fieldsOk = false → exec (.badMessage p m.encode) s = .next dropped) ∧
    exec (.idleByte p) s = .next s) ∧
  (∀ (s : State) (p : Stream), s.ports[p].framing = .skipping →
    exec (.idleByte p) s = .next (withPort s p { s.ports[p] with framing := .waiting }) ∧
    ∀ noise : List Byte, (∀ b ∈ noise, b ≠ 0) → exec (.badMessage p noise) s = .next s) ∧
  (∀ (s : State) (p : Stream), Listening s p → s.ports[p].active = false →
    (∀ n : Byte, 1 ≤ n.toNat → n.toNat ≤ 4 → exec (.credit p n) s = .next s) ∧
    (∀ tag : Byte, tag.toNat < 16 → exec (.cancel p tag) s = .next s) ∧ exec (.linkReset p) s = .next s)

/-- SET_PORT: RANGE; its two settings written; and a change from ENABLED to DISABLED, which ends the lookups. QUERY_PORT
reports the record. That an already cancelling head is counted among the lookups ended, and the order in which their
references are released, are the model's choices (log entries 29 and 15). -/
def Obligations.SetPortAndQueryPort : Prop :=
  ∀ (s : State) (tag b e limit : Byte), s.engine = .idle →
    (4 ≤ b.toNat → exec (.setPort tag b e limit) s = .next (answered s 6 tag 0x40 .range []) ∧
      exec (.queryPort tag b) s = .next (answered s 4 tag 0x41 .range [])) ∧
    (2 ≤ e.toNat → exec (.setPort tag b e limit) s = .next (answered s 6 tag 0x40 .range [])) ∧
    (∀ p : Stream, StreamByte b p →
      let set := withPort s p { s.ports[p] with enabled := decide (e = 1), stallLimit := limit }
      let act := exec (.setPort tag b e limit) s
      let done := fun (t : State) (ended : Byte) => Host.Outcome.next (answered t 6 tag 0x40 .ok [b, e, limit, ended])
      (e = 1 ∨ (e = 0 ∧ s.ports[p].enabled = false) → act = done set 0) ∧
      (e = 0 → s.ports[p].enabled = true →
        (s.ports[p].queue = [] → act = done set 0) ∧
        (∀ h, s.ports[p].queue = [h] → h.resetting = false → h.granted = none →
          act = done (headEnded set p h [] [.ended h.tag .cancelled]) 1) ∧
        (∀ h w, s.ports[p].queue = [h, w] → h.resetting = false → w.resetting = false → h.granted = none →
          act = done (headEnded (waitingEnded set p h w [.ended w.tag .cancelled]) p h []
            [.ended h.tag .cancelled]) 2) ∧
        (∀ h, s.ports[p].queue = [h] → h.resetting = false → h.granted ≠ none →
          act = done (withPort set p { set.ports[p] with queue := [{ h with rowsOwed := [], cancelling := true }] }) 1) ∧
        (∀ h w, s.ports[p].queue = [h, w] → h.resetting = false → w.resetting = false → h.granted ≠ none →
          let first := waitingEnded set p h w [.ended w.tag .cancelled]
          act = done (withPort first p
            { first.ports[p] with queue := [{ h with rowsOwed := [], cancelling := true }] }) 2) ∧
        (∀ h, s.ports[p].queue = [h] → h.resetting = true → h.granted ≠ none → act = done set 0)) ∧
      exec (.queryPort tag b) s = .next (answered s 4 tag 0x41 .ok
        ([b, if s.ports[p].active then 1 else 0, if s.ports[p].enabled then 1 else 0, byteOf s.ports[p].credits,
          s.ports[p].stallLimit, if s.ports[p].timer = .stopped then 0 else 1, byteOf s.ports[p].queue.length]
          ++ s.ports[p].queue.flatMap (fun l => [l.tag, byteOf l.rowsSent, byteOf l.rowsOwed.length,
               if l.granted = none then 0 else 1, if l.cancelling then 1 else 0, if l.resetting then 1 else 0]))))

/-! ### The Surface Engine -/

/-- A grant goes to the first candidate after the port last granted, cyclically: its head's lowest row owed is granted. That
a GRANT with no candidate, or while a row is in production, changes nothing is the model's choice (log entry 7). -/
def Obligations.GrantGoesToNextCandidate : Prop :=
  ∀ s : State,
    let candidate := fun q : Stream => ∃ h rest, s.ports[q].queue = h :: rest ∧ h.rowsOwed ≠ [] ∧ h.granted = none ∧
      h.cancelling = false ∧ 1 ≤ s.ports[q].credits
    (s.datapath ≠ none ∨ (∀ q, ¬ candidate q) → exec .grant s = .next s) ∧
    (∀ (p : Stream) (h : Lookup) (rest : List Lookup) (r : Nat) (rows : List Nat), s.datapath = none → candidate p →
      (∀ q, candidate q → (p - (s.lastGranted + 1)).val ≤ (q - (s.lastGranted + 1)).val) →
      s.ports[p].queue = h :: rest → h.rowsOwed = r :: rows →
      exec .grant s = .next
        { withPort s p { s.ports[p] with queue := { h with granted := some r, rowsOwed := rows } :: rest } with
            lastGranted := p, datapath := some { port := p, tag := h.tag, row := r } })

/-- A finished row is handed back: a credit consumed, its ROW made, and the head kept or ended as its condition gives; a
resetting head leaves without ROW or END, and the messages held behind it are taken, in the same step (the model's choice,
log entry 11). The row's words are read in this event, and HANDOVER acts where all of them are good (the model's choices,
log entries 5 and 7). -/
def Obligations.HandoverMakesRowOrEndsHead : Prop :=
  ∀ (s : State) (d : Producing) (h : Lookup) (rest : List Lookup) (ks : List Knot), s.datapath = some d →
    s.ports[d.port].queue = h :: rest → s.rowKnots h d.row = .ok ks →
    let p := d.port
    let s0 := { s with datapath := none }
    let made := withPort s0 p (rowMade s.ports[p] h rest d.row ks)
    (h.resetting = false →
      (h.cancelling = true → exec .handover s = .next (headEnded made p h rest [.ended h.tag .cancelled])) ∧
      (h.cancelling = false → h.rowsOwed = [] →
        exec .handover s = .next (headEnded made p h rest [.ended h.tag (match h.selection with
          | .pure _ => .complete
          | .blend _ _ _ => .complete
          | .degraded _ => .degraded
          | .fallback => .fallback)])) ∧
      (h.cancelling = false → h.rowsOwed ≠ [] → exec .handover s = .next (withPort made p
        { made.ports[p] with timer :=
            if s.ports[p].credits ≤ 1 ∧ s.ports[p].stallLimit.toNat ≠ 0 then .running 0 s.ports[p].stallLimit.toNat
            else s.ports[p].timer }))) ∧
    (h.resetting = true → rest = [] → exec .handover s = .next
      (s.ports[p].held.foldl (fun t m => t.takeMessage p m)
        (withPort (s0.releaseRefs h.selection) p
          { s.ports[p] with queue := [], held := [], out := s.ports[p].out ++ [.notice .resetDone] })))

/-- A parity fault on a row in production is reported for the entry that holds the word, and ends the head with
END(DAMAGED), or a resetting head without an END, the held messages being taken in the same step (the model's choice, log
entry 11); no ROW is made and no credit consumed. The row's words are read in this event (log entry 5), and each of
HANDOVER and FAULT_REPORT leaves the state alone where its condition does not hold (log entry 7): the model's choices. -/
def Obligations.FaultReportEndsHead : Prop :=
  (∀ (s : State) (d : Producing) (h : Lookup) (rest : List Lookup) (i : EntryIndex), s.datapath = some d →
    s.ports[d.port].queue = h :: rest → s.rowKnots h d.row = .error i →
    let p := d.port
    let marked := { damageReported s i with datapath := none }
    (h.resetting = false → exec .faultReport s = .next (headEnded marked p h rest [.ended h.tag .damaged])) ∧
    (h.resetting = true → rest = [] → exec .faultReport s = .next
      (s.ports[p].held.foldl (fun t m => t.takeMessage p m)
        (withPort (marked.releaseRefs h.selection) p
          { s.ports[p] with queue := [], held := [], out := s.ports[p].out ++ [.notice .resetDone] }))) ∧
    exec .handover s = .next s) ∧
  (∀ (s : State) (d : Producing) (h : Lookup) (rest : List Lookup) (ks : List Knot), s.datapath = some d →
    s.ports[d.port].queue = h :: rest → s.rowKnots h d.row = .ok ks → exec .faultReport s = .next s) ∧
  (∀ s : State, s.datapath = none → exec .handover s = .next s ∧ exec .faultReport s = .next s)

/-! ### The Baseline Store -/

/-- PROGRAM_BASELINE's checks in order and its start; and the end of its scan by the table of R155, every word read in that
event (the model's choice, log entry 5), an excess span given in two bytes (the model's choice, log entry 17) and the slot
left PROGRAMMING with no fields (the model's choice, log entry 22). SCAN_END changes nothing where no scan runs (the
model's choice, log entry 7). -/
def Obligations.ProgramBaselineScans : Prop :=
  (∀ (s : State) (tag b : Byte) (h : RawHandle) (key plateau : Word), s.engine = .idle →
    let act := exec (.programBaseline tag b h key plateau) s
    let refused := fun r : Result => Host.Outcome.next (answered s 10 tag 0x50 r [])
    (4 ≤ b.toNat → act = refused .range) ∧
    (∀ n : Stream, StreamByte b n →
      (s.slots[n].state ≠ .blank → act = refused .slotUsed) ∧
      (s.slots[n].state = .blank →
        (∀ r, HandleRefused s h r → act = refused r) ∧
        (∀ i : EntryIndex, Names s h i →
          (s.entries[i].state ≠ .staged → s.entries[i].state ≠ .live → act = refused .state) ∧
          (s.entries[i].state = .staged ∨ s.entries[i].state = .live →
            (s.entries[i].damaged = true → act = refused .damaged) ∧
            (s.entries[i].damaged = false → act = .next
              { answered s 10 tag 0x50 .none_ [] with engine := .busy tag (.program n i key plateau .scan) })))))) ∧
  (∀ (s : State) (tag : Byte) (n : Stream) (i : EntryIndex) (key plateau check : Word) (pr : Profile),
    s.engine = .busy tag (.program n i key plateau .scan) → s.entries[i].checkValue = some check →
    s.entries[i].profile = some pr →
    let ks := knotValues s i 0 s.entries[i].knotCount
    (∀ j, FirstFault s i 0 s.entries[i].knotCount j →
      exec .scanEnd s = .next (completed (damageReported s i) tag 0x50 .parity (wordOfNat j))) ∧
    (AllGood s i 0 s.entries[i].knotCount →
      (crc16 ks ≠ check → exec .scanEnd s = .next (completed (damageReported s i) tag 0x50 .checkMismatch
        (wordBytes (crc16 ks) ++ wordBytes check))) ∧
      (crc16 ks = check →
        (∀ c, c < pr.geometry.channels → 255 < channelSpan pr.geometry.channels c ks →
          (∀ c', c' < c → channelSpan pr.geometry.channels c' ks ≤ 255) → exec .scanEnd s =
            .next (completed s tag 0x50 .range ([byteOf c] ++ wordOfNat (channelSpan pr.geometry.channels c ks)))) ∧
        ((∀ c, c < pr.geometry.channels → channelSpan pr.geometry.channels c ks ≤ 255) → exec .scanEnd s = .next
          { s with slots := s.slots.set n { state := .programming, fields := none }
                   engine := .busy tag (.program n i key plateau (.write (basesOf pr.geometry.channels ks))) })))) ∧
  (∀ s : State, (∀ tag n i key plateau, s.engine ≠ .busy tag (.program n i key plateau .scan)) →
    exec .scanEnd s = .next s)

/-- The write and the verify of a PROGRAM_BASELINE by the table of R156. That a final state which cannot be recorded leaves
PROGRAMMING and answers PROGRAM_FAILED (log entry 21), that a failed write of any field fails the verify (log entry 35),
that the second read falls in PROGRAM_WRITE_END (log entry 5), that a slot left SPOILED, or PROGRAMMING by a failure, holds
no fields (log entry 22), and that each of the two rows changes nothing where its stage does not run (log entry 7), are
the model's choices. -/
def Obligations.ProgramBaselineWritesAndVerifies : Prop :=
  (∀ (s : State) (tag : Byte) (n : Stream) (i : EntryIndex) (key plateau check : Word) (bases : List Knot) (pr : Profile)
    (recorded : Bool), s.engine = .busy tag (.program n i key plateau (.write bases)) →
    s.entries[i].checkValue = some check → s.entries[i].profile = some pr →
    (∀ j, FirstFault s i 0 s.entries[i].knotCount j → exec (.programWriteEnd recorded) s = .next (completed
      { damageReported s i with
          slots := s.slots.set n { state := if recorded then .spoiled else .programming, fields := none } }
      tag 0x50 .parity (wordOfNat j))) ∧
    (AllGood s i 0 s.entries[i].knotCount → exec (.programWriteEnd recorded) s = .next
      { s with
          slots := s.slots.set n
            { state := .programming
              fields := some
                { columns := byteOf pr.geometry.columns, rows := byteOf pr.geometry.rows,
                  channels := byteOf pr.geometry.channels, format := pr.format.byte, key := key, plateau := plateau,
                  label := pr.label, bases := bases,
                  deltas := deltasOf pr.geometry.channels bases (knotValues s i 0 s.entries[i].knotCount), crc := check } }
          engine := .busy tag (.program n i key plateau (.verify bases)) })) ∧
  (∀ (s : State) (tag : Byte) (n : Stream) (i : EntryIndex) (key plateau : Word) (bases : List Knot) (f : SlotFields)
    (took recorded : Bool), s.engine = .busy tag (.program n i key plateau (.verify bases)) →
    s.slots[n].fields = some f →
    let verifies := ∃ g, GridBytes f.columns f.rows f.channels g ∧
      crc16 (decompress g.channels (g.columns * g.rows * g.channels) f.bases f.deltas) = f.crc
    (verifies → took = true → recorded = true → exec (.programVerifyEnd took recorded) s = .next (completed
      { s with slots := s.slots.set n { state := .programmed, fields := some f } } tag 0x50 .ok
      ([byteOf n.val] ++ wordBytes f.crc ++ bases.flatMap knotBytes))) ∧
    (¬ verifies ∨ took = false ∨ recorded = false → exec (.programVerifyEnd took recorded) s = .next (completed
      { s with slots := s.slots.set n { state := if recorded then .spoiled else .programming, fields := none } }
      tag 0x50 .programFailed []))) ∧
  (∀ (s : State) (took recorded : Bool),
    ((∀ tag n i key plateau bases, s.engine ≠ .busy tag (.program n i key plateau (.write bases))) →
      exec (.programWriteEnd recorded) s = .next s) ∧
    ((∀ tag n i key plateau bases, s.engine ≠ .busy tag (.program n i key plateau (.verify bases))) →
      exec (.programVerifyEnd took recorded) s = .next s))

/-- Compression by channel: each base is the smallest knot of its channel, a span the largest less the smallest, and a
profile whose spans are at most 255 decompresses to itself; a decompressed knot is base plus delta, modulo 4096. -/
def Obligations.CompressionGivesBackEveryKnot : Prop :=
  (∀ (channels : Nat) (ks : List Knot) (c : Nat), c < channels → c < ks.length →
    (∃ (j : Nat) (b : Knot), ks[j]? = some b ∧ j % channels = c ∧ (basesOf channels ks)[c]? = some b ∧
      ∀ (k : Nat) (v : Knot), ks[k]? = some v → k % channels = c → b.toNat ≤ v.toNat) ∧
    (∃ (j k : Nat) (u v : Knot), ks[j]? = some u ∧ ks[k]? = some v ∧ j % channels = c ∧ k % channels = c ∧
      channelSpan channels c ks = u.toNat - v.toNat) ∧
    (∀ (j k : Nat) (u v : Knot), ks[j]? = some u → ks[k]? = some v → j % channels = c → k % channels = c →
      u.toNat - v.toNat ≤ channelSpan channels c ks)) ∧
  (∀ (channels : Nat) (ks : List Knot), 1 ≤ channels →
    (∀ c, c < channels → channelSpan channels c ks ≤ 255) →
    decompress channels ks.length (basesOf channels ks) (deltasOf channels (basesOf channels ks) ks) = ks) ∧
  (∀ (channels count j : Nat) (bases : List Knot) (deltas : List Byte) (b : Knot) (d : Byte), j < count →
    bases[j % channels]? = some b → deltas[j]? = some d →
    ∃ v, (decompress channels count bases deltas)[j]? = some v ∧ v.toNat = (b.toNat + d.toNat) % 4096)

/-- RESTORE_BASELINE's checks in order and its allocation, and QUERY_SLOT's report with the slot-state codes of section
11.1; the order and widths of the report's items are the model's reading of R181 (log entry 17). -/
def Obligations.RestoreBaselineAllocates : Prop :=
  ∀ (s : State) (tag b : Byte), s.engine = .idle →
    let act := exec (.restoreBaseline tag b) s
    (4 ≤ b.toNat → act = .next (answered s 4 tag 0x51 .range []) ∧
      exec (.querySlot tag b) s = .next (answered s 4 tag 0x52 .range [])) ∧
    (∀ n : Stream, StreamByte b n →
      (s.slots[n].state = .blank → act = .next (answered s 4 tag 0x51 .slotEmpty []) ∧
        exec (.querySlot tag b) s = .next (answered s 4 tag 0x52 .ok [0x00])) ∧
      (∀ why, s.slots[n].reading = .spoiled why → act = .next (answered s 4 tag 0x51 .slotSpoiled []) ∧
        exec (.querySlot tag b) s = .next (answered s 4 tag 0x52 .ok [match why with
          | .spoiled => 0x02
          | .programming => 0x03
          | .badGrid => 0x04])) ∧
      (∀ f g fmt, s.slots[n].reading = .programmed f g fmt →
        let p := (g.columns * g.rows * g.channels + 63) / 64
        exec (.querySlot tag b) s = .next (answered s 4 tag 0x52 .ok
          ([0x01, byteOf g.columns, byteOf g.rows, byteOf g.channels, fmt.byte] ++ wordBytes f.key
            ++ wordBytes f.plateau ++ wordBytes f.label ++ f.bases.flatMap knotBytes ++ wordBytes f.crc)) ∧
        ((∀ i : EntryIndex, s.entries[i].state ≠ .free) → act = .next (answered s 4 tag 0x51 .tableFull [])) ∧
        (∀ i : EntryIndex, s.entries[i].state = .free → s.freePages.length < p →
          act = .next (answered s 4 tag 0x51 .noSpace [])) ∧
        (∀ i : EntryIndex, s.memory.wf = true → s.entries[i].state = .free →
          (∀ j : EntryIndex, j < i → s.entries[j].state ≠ .free) → p ≤ s.freePages.length →
          ∃ t, act = .next t ∧
            t = { answered s 4 tag 0x51 .none_ [] with
                    entries := t.entries, memory := t.memory, freePages := s.freePages.drop p, alerts := t.alerts,
                    engine := .busy tag (.restore n i) } ∧
            t.entries[i] = { revision := s.entries[i].revision + 1, state := .loading,
                             profile := some { origin := .baseline n, geometry := g, format := fmt, label := f.label },
                             pages := s.freePages.take p, checkValue := none, damaged := false, membership := 0,
                             pendingRefs := 0, lookupRefs := 0 } ∧
            (∀ j : EntryIndex, j ≠ i → t.entries[j] = s.entries[j]) ∧
            (∀ page ∈ s.freePages.take p, ∀ o, o < 64 →
              t.memory.read (64 * page + o) = KnotWord.ofValue (match fmt with
                | .uq1_11 => 2048
                | .uq2_10 => 1024
                | .uq3_9 => 512)) ∧
            (∀ a, a / 64 ∉ s.freePages.take p → t.memory.read a = s.memory.read a) ∧
            t.alerts = (if s.watermark ≤ s.freePages.length ∧ s.freePages.length - p < s.watermark
                        then insertAlert .poolLow s.alerts else s.alerts))))

/-- The knots a baseline load writes: each decompressed knot of the slot with agreeing parity at its place, but where a
stored fault strikes before the check; and the completion of a restore by the table of R159. That the knots are written and
read in the completing event, that RESTORE_COMPLETE changes nothing where no restore runs, and that a base or delta the
slot lacks reads as 0, are the model's choices (log entries 6, 5, 7 and 25). -/
def Obligations.RestoreCompletesByItsCheck : Prop :=
  (∀ (s : State) (i : EntryIndex) (f : SlotFields) (g : Geometry) (upsets : List LoadUpset), s.memory.wf = true →
    s.entries[i].pages.Nodup → g.columns * g.rows * g.channels ≤ 64 * s.entries[i].pages.length →
    s.loadKnots i f g upsets = { s with memory := (s.loadKnots i f g upsets).memory } ∧
    (∀ j, j < g.columns * g.rows * g.channels → (∀ u ∈ upsets, u.index ≠ j) →
      (s.loadKnots i f g upsets).readKnot i j = KnotWord.ofValue
        (f.bases.getD (j % g.channels) 0 + BitVec.ofNat 12 (f.deltas.getD j 0).toNat)) ∧
    (∀ a, (∀ j, s.knotAddress i j ≠ some a) → (s.loadKnots i f g upsets).memory.read a = s.memory.read a)) ∧
  (∀ (s : State) (tag : Byte) (n : Stream) (i : EntryIndex) (f : SlotFields) (g : Geometry) (fmt : Format)
    (upsets : List LoadUpset), s.engine = .busy tag (.restore n i) → s.slots[n].reading = .programmed f g fmt →
    let l := s.loadKnots i f g upsets
    let count := s.entries[i].knotCount
    (∀ j, FirstFault l i 0 count j → exec (.restoreComplete upsets) s =
      .next (completed (afterFreeing l i) tag 0x51 .parity (wordOfNat j))) ∧
    (AllGood l i 0 count → crc16 (knotValues l i 0 count) ≠ f.crc → exec (.restoreComplete upsets) s =
      .next (completed (afterFreeing l i) tag 0x51 .checkMismatch (wordBytes (crc16 (knotValues l i 0 count))))) ∧
    (AllGood l i 0 count → crc16 (knotValues l i 0 count) = f.crc → exec (.restoreComplete upsets) s =
      .next (completed
        { l with entries := s.entries.set i { s.entries[i] with state := .staged, checkValue := some f.crc } }
        tag 0x51 .ok ([byteOf i.val, s.entries[i].revision] ++ wordBytes f.key ++ wordBytes f.plateau)))) ∧
  (∀ (s : State) (upsets : List LoadUpset), (∀ tag n i, s.engine ≠ .busy tag (.restore n i)) →
    exec (.restoreComplete upsets) s = .next s)

/-- The start-up load of a slot by the table of R162, its knots written and read in the completing event (the model's choice,
log entries 5 and 6) and BASELINE_BAD raised before STARTED (log entry 32); then the next slot's load begins (log entry
28), its pages filled with unity and no other word written, or after slot 3 STARTED is raised, the engine is IDLE and
every port ACTIVE with its NOTICE. The row of a slot that is not being loaded changes nothing (log entry 7). -/
def Obligations.SlotLoadFollowsItsTable : Prop :=
  (∀ (s : State) (n : Stream) (entry : Option EntryIndex) (upsets : List LoadUpset), s.engine = .starting n entry →
    let act := exec (.slotLoad n upsets) s
    let go := fun t : State => Host.Outcome.next (if n = 3 then t.started else t.beginLoad (n + 1))
    (s.slots[n].state = .blank → act = go s) ∧
    (∀ why, s.slots[n].reading = .spoiled why →
      act = go { s with alerts := insertAlert (.baselineBad n) s.alerts }) ∧
    (∀ f g fmt i, s.slots[n].reading = .programmed f g fmt → entry = some i →
      let l := s.loadKnots i f g upsets
      let count := s.entries[i].knotCount
      let config := some { geometry := g, format := fmt }
      (AllGood l i 0 count → crc16 (knotValues l i 0 count) = f.crc → act = go
        { l with
            entries := s.entries.set i
              { s.entries[i] with state := .live, checkValue := some f.crc, membership := streamBit n }
            views := s.views.set n
              { config := config
                anchors := [{ handle := { index := i, revision := s.entries[i].revision }, key := f.key,
                              plateau := f.plateau }]
                generation := s.views[n].generation + 1 } }) ∧
      ((AllGood l i 0 count ∧ crc16 (knotValues l i 0 count) ≠ f.crc) ∨ (∃ j, FirstFault l i 0 count j) → act = go
        { afterFreeing l i with
            views := s.views.set n { s.views[n] with config := config, anchors := [] }
            alerts := insertAlert (.baselineBad n) s.alerts }))) ∧
  (∀ (s : State) (n : Stream) (upsets : List LoadUpset), (∀ entry, s.engine ≠ .starting n entry) →
    exec (.slotLoad n upsets) s = .next s) ∧
  (∀ s : State, s.started = { s with alerts := insertAlert .started s.alerts, engine := .idle, ports := s.started.ports } ∧
    ∀ p : Stream, s.started.ports[p] = { s.ports[p] with active := true, out := s.ports[p].out ++ [.notice .ready] }) ∧
  (∀ (s : State) (n : Stream),
    (s.slots[n].state = .blank → s.beginLoad n = { s with engine := .starting n none }) ∧
    (∀ why, s.slots[n].reading = .spoiled why → s.beginLoad n = { s with engine := .starting n none }) ∧
    (∀ f g fmt i, s.memory.wf = true → s.slots[n].reading = .programmed f g fmt → s.entries[i].state = .free →
      (∀ j : EntryIndex, j < i → s.entries[j].state ≠ .free) → g.pageCount ≤ s.freePages.length →
      let p := g.pageCount
      let u := s.beginLoad n
      u = { s with
              engine := .starting n (some i), entries := u.entries, memory := u.memory, freePages := s.freePages.drop p
              alerts := if s.watermark ≤ s.freePages.length ∧ s.freePages.length - p < s.watermark
                        then insertAlert .poolLow s.alerts else s.alerts } ∧
      u.entries[i] =
        { revision := s.entries[i].revision + 1, state := .loading,
          profile := some { origin := .baseline n, geometry := g, format := fmt, label := f.label },
          pages := s.freePages.take p, checkValue := none, damaged := false, membership := 0,
          pendingRefs := 0, lookupRefs := 0 } ∧
      (∀ j : EntryIndex, j ≠ i → u.entries[j] = s.entries[j]) ∧
      (∀ page ∈ s.freePages.take p, ∀ o, o < 64 →
        u.memory.read (64 * page + o) = KnotWord.ofValue (match fmt with
          | .uq1_11 => 2048
          | .uq2_10 => 1024
          | .uq3_9 => 512)) ∧
      ∀ a, a / 64 ∉ s.freePages.take p → u.memory.read a = s.memory.read a))

/-! ### The Management Port -/

/-- SET_GROUP, SET_ALERTS and READ_ALERTS; ALERT_N, which is low while the set is not empty, before STARTED too (the model's
choice between R179 and R163, log entry 32); and the STATUS window. -/
def Obligations.SettingsAndAlertRequests : Prop :=
  (∀ (s : State) (tag a e k : Byte), s.engine = .idle →
    (a.toNat < 0x08 ∨ 0x77 < a.toNat ∨ (0x2C ≤ a.toNat ∧ a.toNat ≤ 0x2F) ∨ 2 ≤ e.toNat ∨ 2 ≤ k.toNat →
      exec (.setGroup tag a e k) s = .next (answered s 6 tag 0x60 .range [])) ∧
    (0x08 ≤ a.toNat → a.toNat ≤ 0x77 → (a.toNat < 0x2C ∨ 0x2F < a.toNat) → e.toNat ≤ 1 → k.toNat ≤ 1 →
      exec (.setGroup tag a e k) s = .next (answered
        { s with groupAddress := a.setWidth 7, groupEnabled := decide (e = 1), acknowledger := decide (k = 1) }
        6 tag 0x60 .ok [a, e, k]))) ∧
  (∀ (s : State) (tag m : Byte) (w : Word), s.engine = .idle →
    (16 ≤ m.toNat ∨ 512 < w.toNat → exec (.setAlerts tag m w) s = .next (answered s 6 tag 0x61 .range [])) ∧
    (∀ mask, MaskByte m mask → w.toNat ≤ 512 → exec (.setAlerts tag m w) s = .next (answered
      { s with appliedMask := mask, watermark := w.toNat } 6 tag 0x61 .ok ([m] ++ wordBytes w)))) ∧
  (∀ (s : State) (tag : Byte), s.engine = .idle → exec (.readAlerts tag) s = .next (answered
    { s with alerts := s.alerts.drop 16 } 3 tag 0x62 .ok
    ([byteOf (min s.alerts.length 16)] ++ (s.alerts.take 16).flatMap (fun a => match a with
        | .applied n => [0x01, byteOf n.val]
        | .damaged i => [0x02, byteOf i.val]
        | .poolLow => [0x03, 0x00]
        | .baselineBad n => [0x04, byteOf n.val]
        | .groupMissed => [0x05, 0x00]
        | .started => [0x06, 0x00]) ++ [byteOf (s.alerts.length - 16)]))) ∧
  (∀ s : State, (s.alertLow = true ↔ s.alerts ≠ []) ∧
    s.statusBytes = [match s.engine with
        | .starting _ _ => 0x00
        | .idle => 0x01
        | .busy _ _ => 0x02, if s.alerts = [] then 0 else 1, match s.engine with
        | .busy tag _ => tag
        | _ => 0x00])

/-- Every request message has the code and the parameters of the table of section 11.1; read back from its bytes it is the
request, and a write of those bytes to the REQUEST window does what the request's row does, in every engine state (that a
row stands for that write is the model's reading, log entry 8). -/
def Obligations.RequestBytesReadBack : Prop :=
  (∀ (tag : Byte) (r : Request), encodeRequest tag r = match r with
    | .create c ro ch f l => [0x10, tag, 6, c, ro, ch, f] ++ wordBytes l
    | .delete h => [0x11, tag, 2, h.index, h.revision]
    | .queryProfile h => [0x12, tag, 2, h.index, h.revision]
    | .queryStore => [0x13, tag, 0]
    | .writeKnots h first count ks => [0x14, tag, BitVec.ofNat 8 (5 + 2 * ks.length), h.index, h.revision]
        ++ wordBytes first ++ [count] ++ ks.flatMap wordBytes
    | .readKnots h first count => [0x15, tag, 5, h.index, h.revision] ++ wordBytes first ++ [count]
    | .finish h crc => [0x16, tag, 4, h.index, h.revision] ++ wordBytes crc
    | .verify h => [0x17, tag, 2, h.index, h.revision]
    | .configureView n c ro ch f => [0x20, tag, 5, n, c, ro, ch, f]
    | .queryView n => [0x21, tag, 1, n]
    | .attach n h k p => [0x22, tag, 7, n, h.index, h.revision] ++ wordBytes k ++ wordBytes p
    | .detach n h => [0x23, tag, 3, n, h.index, h.revision]
    | .move n h k p => [0x24, tag, 7, n, h.index, h.revision] ++ wordBytes k ++ wordBytes p
    | .commit m kind n => [0x25, tag, 4, m, kind] ++ wordBytes n
    | .withdraw m => [0x26, tag, 1, m]
    | .discard m => [0x27, tag, 1, m]
    | .queryEdits n => [0x28, tag, 1, n]
    | .point m => [0x30, tag, 1, m]
    | .setPoints n src pol pre => [0x31, tag, 4, n, src, pol, pre]
    | .clearCounts m => [0x32, tag, 1, m]
    | .queryPoints => [0x33, tag, 0]
    | .setPort p e l => [0x40, tag, 3, p, e, l]
    | .queryPort p => [0x41, tag, 1, p]
    | .programBaseline n h k p => [0x50, tag, 7, n, h.index, h.revision] ++ wordBytes k ++ wordBytes p
    | .restoreBaseline n => [0x51, tag, 1, n]
    | .querySlot n => [0x52, tag, 1, n]
    | .setGroup a e k => [0x60, tag, 3, a, e, k]
    | .setAlerts m w => [0x61, tag, 3, m] ++ wordBytes w
    | .readAlerts => [0x62, tag, 0]) ∧
  ∀ (tag : Byte) (r : Request), r.wellFormed = true →
    judgeRequest (encodeRequest tag r) = .taken tag r ∧
    ∀ s : State, exec (.windowSelect 0x01 (encodeRequest tag r)) s = exec (requestRow tag r) s

/-- Writes that are no request are answered FORMAT or UNKNOWN_REQUEST, echoing what was received; a write to a part that is
BUSY or STARTING is NACKed from its first request byte and takes nothing, whichever row brings it. That the rows of raw
bytes are judged as every request write is (log entry 8), and that the acknowledge bits are kept in a field (log entry
19), are the model's reading. -/
def Obligations.RequestWritesJudged : Prop :=
  (∀ (s : State) (message : List Byte) (code tag : Byte), s.engine = .idle → message ≠ [] →
    (judgeRequest message = .unknown code tag → exec (.unknownRequest message) s =
      .next { answered s 0 tag code .unknownRequest [] with acks := requestAcks message }) ∧
    (judgeRequest message = .format code tag → exec (.requestFormatError message) s =
      .next { answered s 0 tag code .format [] with acks := requestAcks message })) ∧
  (∀ (code tag len : Byte) (ps : List Byte) (i : Nat), i < (requestAcks (code :: tag :: len :: ps)).length →
    (requestAcks (code :: tag :: len :: ps))[i]? = some (decide (i < 4 ∨ (i < 4 + len.toNat ∧ i < 68)))) ∧
  (∀ code : Byte, judgeRequest [code] = .format code 0) ∧
  (∀ code tag : Byte, judgeRequest [code, tag] = .format code tag) ∧
  (∀ (code tag len : Byte) (ps : List Byte),
    (64 < len.toNat ∨ ps.length ≠ len.toNat → judgeRequest (code :: tag :: len :: ps) = .format code tag) ∧
    (len.toNat ≤ 64 → ps.length = len.toNat → code ∉ requestCodes →
      judgeRequest (code :: tag :: len :: ps) = .unknown code tag) ∧
    (len.toNat ≤ 64 → ps.length = len.toNat → code ∈ requestCodes → (∀ r : Request, r.params = ps → r.code ≠ code) →
      judgeRequest (code :: tag :: len :: ps) = .format code tag)) ∧
  (∀ (s : State) (message : List Byte) (c : Instr), s.engine ≠ .idle →
    c = .busyNack message ∨ c = .unknownRequest message ∨ c = .requestFormatError message ∨
      (∃ tag r, c = requestRow tag r ∧ message = encodeRequest tag r) → message ≠ [] →
    exec c s = .next { s with window := some .request, acks := true :: List.replicate message.length false })

/-- A write's selector selects its window in every engine state, and an unassigned one is NACKed and selects nothing;
reads return RESPONSE or STATUS; ABORT ends a FINISH, a VERIFY or a RESTORE_BASELINE, and is ignored otherwise. The
result byte of a response is the code of section 11.2. That the bytes after an unassigned selector are NACKed with it (log
entry 33), and that the acknowledge bits are kept in a field (log entry 19), are the model's choices. -/
def Obligations.WindowsAndAbort : Prop :=
  (∀ (s : State) (extra : List Byte),
    exec (.windowSelect 0x02 extra) s = .next
      { s with window := some .response, acks := true :: List.replicate extra.length false } ∧
    exec (.windowSelect 0x04 extra) s = .next
      { s with window := some .status, acks := true :: List.replicate extra.length false } ∧
    exec (.windowSelect 0x01 []) s = .next { s with window := some .request, acks := [true] } ∧
    exec (.windowSelect 0x03 []) s = .next { s with window := some .abort, acks := [true] } ∧
    (∀ sel : Byte, sel.toNat = 0 ∨ 5 ≤ sel.toNat → exec (.windowSelect sel extra) s =
      .next { s with acks := List.replicate (extra.length + 1) false })) ∧
  (∀ s : State, s.window = some .response → s.readWindow =
    [s.response.tag, s.response.code, s.response.result.byte, byteOf s.response.data.length] ++ s.response.data) ∧
  (∀ r : Result, r.byte = match r with
    | .ok => 0x00
    | .none_ => 0x01
    | .format => 0x02
    | .unknownRequest => 0x03
    | .range => 0x04
    | .stale => 0x05
    | .state => 0x06
    | .tableFull => 0x07
    | .noSpace => 0x08
    | .checkMismatch => 0x09
    | .parity => 0x0A
    | .inUse => 0x0B
    | .live => 0x0C
    | .damaged => 0x0D
    | .unconfigured => 0x0E
    | .geometry => 0x0F
    | .viewBusy => 0x10
    | .armed => 0x11
    | .listFull => 0x12
    | .duplicate => 0x13
    | .notMember => 0x14
    | .layout => 0x15
    | .nothingPending => 0x16
    | .tooLate => 0x17
    | .slotUsed => 0x18
    | .slotEmpty => 0x19
    | .slotSpoiled => 0x1A
    | .programFailed => 0x1B
    | .aborted => 0x1C
    | .groupRefused => 0x1D) ∧
  (∀ s : State, s.window ≠ some .response → s.readWindow = s.statusBytes) ∧
  (∀ (s : State) (n : Nat), s.readBytes n = (s.readWindow ++ List.replicate n 0).take n) ∧
  (∀ (s : State) (value : Byte) (extra : List Byte),
    let s' := { s with window := some Window.abort, acks := true :: true :: List.replicate extra.length false }
    let act := exec (.abort value extra) s
    (∀ tag i crc, s.engine = .busy tag (.finish i crc) → act = .next (completed s' tag 0x16 .aborted [])) ∧
    (∀ tag i, s.engine = .busy tag (.verify i) → act = .next (completed s' tag 0x17 .aborted [])) ∧
    (∀ tag n i, s.engine = .busy tag (.restore n i) →
      act = .next (completed (afterFreeing s' i) tag 0x51 .aborted [])) ∧
    ((∃ tag n i k p st, s.engine = .busy tag (.program n i k p st)) ∨ s.engine = .idle ∨
      (∃ n e, s.engine = .starting n e) → act = .next s'))

/-- Which address bytes the part acknowledges: its primary address, and as an acknowledger its enabled group address for a
write. A group write: ignored off the enabled group address; discarded where the bus does not acknowledge its selector or
first request byte; executed, refused or judged by an IDLE part; dropped with GROUP_MISSED by any other. What is executed
is what the request's row does but for the window and the acknowledge bits, written out for a WITHDRAW and a POINT. That
the bytes after a NACKed selector are NACKed with it, that the bus is seen through one operand, that a POINT's counters are
listed in stream order, and that the acknowledge bits are kept in a field, are the model's choices (log entries 33, 20, 17
and 19). -/
def Obligations.GroupWriteByTable : Prop :=
  (∀ (s : State) (address : BitVec 7) (read : Bool), s.acksAddress address read = true ↔
    address = s.primaryAddress ∨
      (s.groupEnabled = true ∧ s.acknowledger = true ∧ address = s.groupAddress ∧ read = false)) ∧
  (∀ (s : State) (message : List Byte),
    (s.acknowledger = false → s.groupAcks (0x01 :: message) = List.replicate (message.length + 1) false) ∧
    (s.acknowledger = true → s.engine = .idle → s.groupAcks (0x01 :: message) = requestAcks message) ∧
    (s.acknowledger = true → s.engine ≠ .idle →
      s.groupAcks (0x01 :: message) = true :: List.replicate message.length false) ∧
    ∀ sel : Byte, sel ≠ 0x01 → s.groupAcks (sel :: message) = List.replicate (message.length + 1) false) ∧
  ∀ (s : State) (a : BitVec 7) (others : OtherAcknowledgers) (bytes message : List Byte),
    (s.groupEnabled = false ∨ s.groupAddress ≠ a → exec (.groupWrite a others bytes) s = .next s) ∧
    (s.groupEnabled = true → s.groupAddress = a →
      (bytes.head? ≠ some 0x01 ∨ bytes.length ≤ 1 ∨ ¬ groupWriteTaken s others →
        exec (.groupWrite a others bytes) s = .next { s with acks := s.groupAcks bytes }) ∧
      (bytes = 0x01 :: message → message ≠ [] → groupWriteTaken s others →
        (s.engine ≠ .idle → exec (.groupWrite a others bytes) s =
          .next { s with acks := s.groupAcks bytes, alerts := insertAlert .groupMissed s.alerts }) ∧
        (s.engine = .idle →
          (∀ code tag, judgeRequest message = .format code tag → exec (.groupWrite a others bytes) s =
            .next { s with acks := s.groupAcks bytes, response := { tag := tag, code := code, result := .format, data := [] } }) ∧
          (∀ code tag, judgeRequest message = .unknown code tag → exec (.groupWrite a others bytes) s =
            .next { s with acks := s.groupAcks bytes,
                           response := { tag := tag, code := code, result := .unknownRequest, data := [] } }) ∧
          (∀ tag r, judgeRequest message = .taken tag r → groupRequest r = false →
            exec (.groupWrite a others bytes) s = .next
              { s with acks := s.groupAcks bytes, response := { tag := tag, code := r.code, result := .groupRefused, data := [] } }) ∧
          (∀ tag r, judgeRequest message = .taken tag r → groupRequest r = true →
            ∃ t, exec (requestRow tag r) s = .next t ∧
              exec (.groupWrite a others bytes) s = .next { t with acks := s.groupAcks bytes, window := s.window }) ∧
          (∀ tag m mask, judgeRequest message = .taken tag (.withdraw m) → MaskByte m mask →
            ∃ (t : State) (w : StreamMask), exec (.groupWrite a others bytes) s = .next t ∧
              t = { s with acks := s.groupAcks bytes, lists := t.lists,
                           response := { tag := tag, code := 0x26, result := .ok, data := [w.setWidth 8] } } ∧
              (∀ n : Stream, t.lists[n] = if inMask mask n then { s.lists[n] with target := none } else s.lists[n]) ∧
              ∀ n : Stream, inMask w n = (inMask mask n && s.lists[n].target.isSome)) ∧
          (∀ tag m mask, judgeRequest message = .taken tag (.point m) → MaskByte m mask →
            ∃ t, exec (.groupWrite a others bytes) s = .next t ∧
              t = { s with
                      acks := s.groupAcks bytes, points := t.points, views := t.views, lists := t.lists
                      entries := t.entries, alerts := t.alerts
                      response := { tag := tag, code := 0x30, result := .ok,
                                    data := [m] ++ (maskStreams mask).flatMap
                                      (fun n => wordBytes (s.points[n].counter + 1)) } } ∧
              (∀ n : Stream, t.points[n] = if inMask mask n then { s.points[n] with counter := s.points[n].counter + 1 }
                                           else s.points[n]) ∧
              Published s t (fun n => inMask mask n = true)))))
end

