-- ==== Sys2Proof/Laws/Memory.lean ====
section
/-! SUPPORT. The Knot Memory's operations: what a read sees after a write or a fill, and that each keeps the canonical
form. -/

namespace Sys2Proof.Machine

/-- The canonical form of a list with a first cell. -/
theorem Memory.wf_cons {a : Nat} {w : KnotWord} {m : Memory} :
    Memory.wf ((a, w) :: m) = true ↔ w ≠ Memory.unlisted ∧ (∀ c ∈ m, a < c.1) ∧ Memory.wf m = true := by
  simp [Memory.wf, and_assoc]

/-- The canonical form as addresses strictly rising and no cell equal to the unlisted word. -/
theorem Memory.wf_iff {m : Memory} :
    m.wf = true ↔ m.Pairwise (fun a b => a.1 < b.1) ∧ ∀ c ∈ m, c.2 ≠ Memory.unlisted := by
  induction m with
  | nil => simp [Memory.wf]
  | cons c m ih =>
    obtain ⟨a, w⟩ := c
    rw [Memory.wf_cons, ih, List.pairwise_cons]
    constructor
    · rintro ⟨h1, h2, h3, h4⟩
      exact ⟨⟨h2, h3⟩, by simpa [h1] using h4⟩
    · rintro ⟨⟨h2, h3⟩, h4⟩
      simp only [List.mem_cons, forall_eq_or_imp] at h4
      exact ⟨h4.1, h2, h3, h4.2⟩

/-- An address that no cell lists reads as the unlisted word. -/
theorem Memory.read_absent {m : Memory} {a : Nat} (h : ∀ c ∈ m, c.1 ≠ a) : m.read a = Memory.unlisted := by
  induction m with
  | nil => rfl
  | cons c m ih =>
    simp only [List.mem_cons, forall_eq_or_imp] at h
    simp [Memory.read, h.1, ih h.2]

/-- A cell of a canonical memory is what its address reads as. -/
theorem Memory.read_of_mem {m : Memory} (hp : m.Pairwise (fun a b => a.1 < b.1)) {c : Nat × KnotWord} (h : c ∈ m) :
    m.read c.1 = c.2 := by
  induction m with
  | nil => simp at h
  | cons d m ih =>
    rw [List.pairwise_cons] at hp
    rcases List.mem_cons.1 h with rfl | h
    · simp [Memory.read]
    · simp [Memory.read, (hp.1 c h).ne, ih hp.2 h]

/-- The addresses a write leaves listed. -/
theorem Memory.mem_write {m : Memory} {a : Nat} {w : KnotWord} {c : Nat × KnotWord} (h : c ∈ m.write a w) :
    c ∈ m ∨ c = (a, w) := by
  induction m with
  | nil =>
    unfold Memory.write at h
    split at h <;> simp_all
  | cons d m ih =>
    obtain ⟨b, v⟩ := d
    unfold Memory.write at h
    split at h
    · split at h <;> simp only [List.mem_cons] at h ⊢ <;> tauto
    · split at h
      · split at h <;> simp only [List.mem_cons] at h ⊢ <;> tauto
      · rcases List.mem_cons.1 h with h | h
        · simp [h]
        · rcases ih h with h | h <;> simp [h]

/-- A write keeps the canonical form. -/
theorem Memory.wf_write {m : Memory} {a : Nat} {w : KnotWord} (h : m.wf = true) : (m.write a w).wf = true := by
  induction m with
  | nil =>
    unfold Memory.write
    split
    · rfl
    · simp_all [Memory.wf]
  | cons d m ih =>
    obtain ⟨b, v⟩ := d
    have hw := h
    rw [Memory.wf_cons] at h
    obtain ⟨h1, h2, h3⟩ := h
    unfold Memory.write
    split
    · next hlt =>
      split
      · exact hw
      · rw [Memory.wf_cons]
        refine ⟨by assumption, ?_, hw⟩
        intro c hc
        rcases List.mem_cons.1 hc with rfl | hc
        · exact hlt
        · exact hlt.trans (h2 c hc)
    · split
      · next heq =>
        subst heq
        split
        · exact h3
        · exact Memory.wf_cons.2 ⟨by assumption, h2, h3⟩
      · rw [Memory.wf_cons]
        refine ⟨h1, ?_, ih h3⟩
        intro c hc
        rcases Memory.mem_write hc with hc | rfl
        · exact h2 c hc
        · simp only; omega

/-- The word written is read back. -/
theorem Memory.read_write_same {m : Memory} {a : Nat} {w : KnotWord} (h : m.wf = true) : (m.write a w).read a = w := by
  induction m with
  | nil =>
    unfold Memory.write
    split <;> simp_all [Memory.read]
  | cons d m ih =>
    obtain ⟨b, v⟩ := d
    rw [Memory.wf_cons] at h
    obtain ⟨_, h2, h3⟩ := h
    unfold Memory.write
    split
    · next hlt =>
      split
      · next hu =>
        rw [hu]
        apply Memory.read_absent
        intro c hc
        rcases List.mem_cons.1 hc with rfl | hc
        · exact (Nat.ne_of_gt hlt)
        · have := h2 c hc
          omega
      · simp [Memory.read]
    · split
      · next heq =>
        subst heq
        split
        · next hu =>
          rw [hu]
          exact Memory.read_absent (fun c hc => by have := h2 c hc; omega)
        · simp [Memory.read]
      · next hne => simp [Memory.read, Ne.symm hne, ih h3]

/-- Every other address reads as before a write. -/
theorem Memory.read_write_other {m : Memory} {a b : Nat} {w : KnotWord} (h : m.wf = true) (hab : b ≠ a) :
    (m.write a w).read b = m.read b := by
  induction m with
  | nil =>
    unfold Memory.write
    split <;> simp_all [Memory.read, Ne.symm hab]
  | cons d m ih =>
    obtain ⟨c, v⟩ := d
    rw [Memory.wf_cons] at h
    obtain ⟨_, h2, h3⟩ := h
    unfold Memory.write
    split
    · split
      · rfl
      · simp [Memory.read, Ne.symm hab]
    · split
      · next heq =>
        subst heq
        split
        · simp [Memory.read, Ne.symm hab]
        · simp [Memory.read, Ne.symm hab]
      · simp only [Memory.read]
        split
        · rfl
        · exact ih h3

/-- The cells of a filled page. -/
theorem Memory.mem_pageCells {page : Nat} {w : KnotWord} {c : Nat × KnotWord} (h : c ∈ Memory.pageCells page w) :
    64 * page ≤ c.1 ∧ c.1 < 64 * page + 64 ∧ c.2 = w ∧ w ≠ Memory.unlisted := by
  unfold Memory.pageCells at h
  split at h
  · simp at h
  · next hne =>
    obtain ⟨i, hi, rfl⟩ := List.mem_map.1 h
    rw [List.mem_range] at hi
    refine ⟨?_, ?_, rfl, hne⟩ <;> simp only <;> omega

/-- The cells of a filled page stand in rising order. -/
theorem Memory.pairwise_pageCells (page : Nat) (w : KnotWord) :
    (Memory.pageCells page w).Pairwise (fun a b => a.1 < b.1) := by
  unfold Memory.pageCells
  split
  · exact List.Pairwise.nil
  · rw [List.pairwise_map]
    exact List.Pairwise.imp (by intro a b h; simp only; omega) List.pairwise_lt_range

/-- A fill keeps the canonical form. -/
theorem Memory.wf_fillPage {m : Memory} {page : Nat} {w : KnotWord} (h : m.wf = true) : (m.fillPage page w).wf = true := by
  rw [Memory.wf_iff] at h ⊢
  obtain ⟨hp, hu⟩ := h
  unfold Memory.fillPage
  constructor
  · rw [List.pairwise_append, List.pairwise_append]
    refine ⟨⟨hp.filter _, Memory.pairwise_pageCells page w, ?_⟩, hp.filter _, ?_⟩
    · intro a ha b hb
      have h1 := (List.mem_filter.1 ha).2
      have h2 := Memory.mem_pageCells hb
      simp only [decide_eq_true_eq] at h1
      omega
    · intro a ha b hb
      have h1 := (List.mem_filter.1 hb).2
      simp only [decide_eq_true_eq] at h1
      rcases List.mem_append.1 ha with ha | ha
      · have h2 := (List.mem_filter.1 ha).2
        simp only [decide_eq_true_eq] at h2
        omega
      · have h2 := Memory.mem_pageCells ha
        omega
  · intro c hc
    rcases List.mem_append.1 hc with hc | hc
    · rcases List.mem_append.1 hc with hc | hc
      · exact hu c (List.mem_filter.1 hc).1
      · have h2 := Memory.mem_pageCells hc
        rw [h2.2.2.1]
        exact h2.2.2.2
    · exact hu c (List.mem_filter.1 hc).1

/-- In a canonical memory a read is the cell listed, or the unlisted word where none is. -/
theorem Memory.read_eq_iff {m : Memory} (h : m.wf = true) (a : Nat) (w : KnotWord) (hw : w ≠ Memory.unlisted) :
    m.read a = w ↔ (a, w) ∈ m := by
  have hp := (Memory.wf_iff.1 h).1
  constructor
  · intro hr
    by_contra hn
    by_cases hx : ∃ c ∈ m, c.1 = a
    · obtain ⟨c, hc, rfl⟩ := hx
      rw [Memory.read_of_mem hp hc] at hr
      exact hn (by rw [← hr]; exact hc)
    · exact hw (hr.symm.trans (Memory.read_absent (fun c hc e => hx ⟨c, hc, e⟩)))
  · intro hm
    exact Memory.read_of_mem hp hm

/-- A filled page reads as the word it is filled with. -/
theorem Memory.read_fillPage_same {m : Memory} {page i : Nat} {w : KnotWord} (h : m.wf = true) (hi : i < 64) :
    (m.fillPage page w).read (64 * page + i) = w := by
  by_cases hw : w = Memory.unlisted
  · rw [hw]
    apply Memory.read_absent
    intro c hc
    unfold Memory.fillPage Memory.pageCells at hc
    simp only [↓reduceIte, List.append_nil, List.mem_append, List.mem_filter, decide_eq_true_eq] at hc
    rcases hc with hc | hc <;> omega
  · rw [Memory.read_eq_iff (Memory.wf_fillPage h) _ _ hw]
    unfold Memory.fillPage Memory.pageCells
    simp [hw, hi]

/-- Every address outside a filled page reads as before. -/
theorem Memory.read_fillPage_other {m : Memory} {page a : Nat} {w : KnotWord} (h : m.wf = true)
    (ha : a < 64 * page ∨ 64 * page + 64 ≤ a) : (m.fillPage page w).read a = m.read a := by
  have key : ∀ v, v ≠ Memory.unlisted → ((a, v) ∈ m.fillPage page w ↔ (a, v) ∈ m) := by
    intro v _
    unfold Memory.fillPage
    simp only [List.mem_append, List.mem_filter, decide_eq_true_eq]
    constructor
    · rintro ((⟨h1, _⟩ | h1) | ⟨h1, _⟩)
      · exact h1
      · have := Memory.mem_pageCells h1
        omega
      · exact h1
    · intro h1
      rcases ha with ha | ha
      · exact Or.inl (Or.inl ⟨h1, ha⟩)
      · exact Or.inr ⟨h1, ha⟩
  by_cases hu : m.read a = Memory.unlisted
  · by_contra hne
    have hne' : (m.fillPage page w).read a ≠ Memory.unlisted := fun e => hne (e.trans hu.symm)
    have h1 := (Memory.read_eq_iff (Memory.wf_fillPage h) a _ hne').1 rfl
    exact hne' ((((Memory.read_eq_iff h a _ hne').2 ((key _ hne').1 h1)).symm).trans hu)
  · exact (Memory.read_eq_iff (Memory.wf_fillPage h) a _ hu).2 ((key _ hu).2 ((Memory.read_eq_iff h a _ hu).1 rfl))

/-- The memory after reset is in canonical form. -/
theorem State.reset_memory_wf : State.reset.memory.wf = true := rfl

/-- Putting a word at a knot keeps the canonical form. -/
theorem State.putKnot_wf (s : State) (i : EntryIndex) (j : Nat) (w : KnotWord) (h : s.memory.wf = true) :
    (s.putKnot i j w).memory.wf = true := by
  unfold State.putKnot
  split
  · exact Memory.wf_write h
  · exact h

/-- Writing a run of knots keeps the canonical form. -/
theorem State.writeKnots_wf (vs : List Knot) (s : State) (i : EntryIndex) (first : Nat) (h : s.memory.wf = true) :
    (s.writeKnots i first vs).memory.wf = true := by
  induction vs generalizing s first with
  | nil => exact h
  | cons v vs ih => exact ih _ _ (State.putKnot_wf s i first _ h)

/-- Stored faults keep the canonical form. -/
theorem State.upsetKnots_wf (us : List LoadUpset) (s : State) (i : EntryIndex) (h : s.memory.wf = true) :
    (s.upsetKnots i us).memory.wf = true := by
  unfold State.upsetKnots
  induction us generalizing s with
  | nil => exact h
  | cons u us ih => exact ih _ (State.putKnot_wf s i _ _ h)

/-- Filling pages keeps the canonical form. -/
theorem State.fillPages_wf (pages : List Nat) (s : State) (f : Format) (h : s.memory.wf = true) :
    (s.fillPages pages f).memory.wf = true := by
  unfold State.fillPages
  simp only
  generalize s.memory = m at h ⊢
  induction pages generalizing m with
  | nil => exact h
  | cons p pages ih => exact ih _ (Memory.wf_fillPage h)

end Sys2Proof.Machine
end

