-- ==== Sys2Proof/Laws/State.lean ====
section
/-! SUPPORT. What each update of the state leaves in each field: one lemma a field an update, true by rfl. -/

namespace Sys2Proof.Machine

variable (s : State)

/-! ### State.setEntry -/

@[simp] theorem setEntry_entries (i : EntryIndex) (e : Entry) : (s.setEntry i e).entries = s.entries.set i e := rfl
@[simp] theorem setEntry_memory (i : EntryIndex) (e : Entry) : (s.setEntry i e).memory = s.memory := rfl
@[simp] theorem setEntry_freePages (i : EntryIndex) (e : Entry) : (s.setEntry i e).freePages = s.freePages := rfl
@[simp] theorem setEntry_views (i : EntryIndex) (e : Entry) : (s.setEntry i e).views = s.views := rfl
@[simp] theorem setEntry_lists (i : EntryIndex) (e : Entry) : (s.setEntry i e).lists = s.lists := rfl
@[simp] theorem setEntry_points (i : EntryIndex) (e : Entry) : (s.setEntry i e).points = s.points := rfl
@[simp] theorem setEntry_lines (i : EntryIndex) (e : Entry) : (s.setEntry i e).lines = s.lines := rfl
@[simp] theorem setEntry_ports (i : EntryIndex) (e : Entry) : (s.setEntry i e).ports = s.ports := rfl
@[simp] theorem setEntry_datapath (i : EntryIndex) (e : Entry) : (s.setEntry i e).datapath = s.datapath := rfl
@[simp] theorem setEntry_lastGranted (i : EntryIndex) (e : Entry) : (s.setEntry i e).lastGranted = s.lastGranted := rfl
@[simp] theorem setEntry_slots (i : EntryIndex) (e : Entry) : (s.setEntry i e).slots = s.slots := rfl
@[simp] theorem setEntry_engine (i : EntryIndex) (e : Entry) : (s.setEntry i e).engine = s.engine := rfl
@[simp] theorem setEntry_primaryAddress (i : EntryIndex) (e : Entry) : (s.setEntry i e).primaryAddress = s.primaryAddress := rfl
@[simp] theorem setEntry_window (i : EntryIndex) (e : Entry) : (s.setEntry i e).window = s.window := rfl
@[simp] theorem setEntry_response (i : EntryIndex) (e : Entry) : (s.setEntry i e).response = s.response := rfl
@[simp] theorem setEntry_groupAddress (i : EntryIndex) (e : Entry) : (s.setEntry i e).groupAddress = s.groupAddress := rfl
@[simp] theorem setEntry_groupEnabled (i : EntryIndex) (e : Entry) : (s.setEntry i e).groupEnabled = s.groupEnabled := rfl
@[simp] theorem setEntry_acknowledger (i : EntryIndex) (e : Entry) : (s.setEntry i e).acknowledger = s.acknowledger := rfl
@[simp] theorem setEntry_alerts (i : EntryIndex) (e : Entry) : (s.setEntry i e).alerts = s.alerts := rfl
@[simp] theorem setEntry_appliedMask (i : EntryIndex) (e : Entry) : (s.setEntry i e).appliedMask = s.appliedMask := rfl
@[simp] theorem setEntry_watermark (i : EntryIndex) (e : Entry) : (s.setEntry i e).watermark = s.watermark := rfl
@[simp] theorem setEntry_acks (i : EntryIndex) (e : Entry) : (s.setEntry i e).acks = s.acks := rfl
@[simp] theorem setEntry_pending (i : EntryIndex) (e : Entry) : (s.setEntry i e).pending = s.pending := rfl

/-! ### State.setView -/

@[simp] theorem setView_entries (n : Stream) (v : View) : (s.setView n v).entries = s.entries := rfl
@[simp] theorem setView_memory (n : Stream) (v : View) : (s.setView n v).memory = s.memory := rfl
@[simp] theorem setView_freePages (n : Stream) (v : View) : (s.setView n v).freePages = s.freePages := rfl
@[simp] theorem setView_views (n : Stream) (v : View) : (s.setView n v).views = s.views.set n v := rfl
@[simp] theorem setView_lists (n : Stream) (v : View) : (s.setView n v).lists = s.lists := rfl
@[simp] theorem setView_points (n : Stream) (v : View) : (s.setView n v).points = s.points := rfl
@[simp] theorem setView_lines (n : Stream) (v : View) : (s.setView n v).lines = s.lines := rfl
@[simp] theorem setView_ports (n : Stream) (v : View) : (s.setView n v).ports = s.ports := rfl
@[simp] theorem setView_datapath (n : Stream) (v : View) : (s.setView n v).datapath = s.datapath := rfl
@[simp] theorem setView_lastGranted (n : Stream) (v : View) : (s.setView n v).lastGranted = s.lastGranted := rfl
@[simp] theorem setView_slots (n : Stream) (v : View) : (s.setView n v).slots = s.slots := rfl
@[simp] theorem setView_engine (n : Stream) (v : View) : (s.setView n v).engine = s.engine := rfl
@[simp] theorem setView_primaryAddress (n : Stream) (v : View) : (s.setView n v).primaryAddress = s.primaryAddress := rfl
@[simp] theorem setView_window (n : Stream) (v : View) : (s.setView n v).window = s.window := rfl
@[simp] theorem setView_response (n : Stream) (v : View) : (s.setView n v).response = s.response := rfl
@[simp] theorem setView_groupAddress (n : Stream) (v : View) : (s.setView n v).groupAddress = s.groupAddress := rfl
@[simp] theorem setView_groupEnabled (n : Stream) (v : View) : (s.setView n v).groupEnabled = s.groupEnabled := rfl
@[simp] theorem setView_acknowledger (n : Stream) (v : View) : (s.setView n v).acknowledger = s.acknowledger := rfl
@[simp] theorem setView_alerts (n : Stream) (v : View) : (s.setView n v).alerts = s.alerts := rfl
@[simp] theorem setView_appliedMask (n : Stream) (v : View) : (s.setView n v).appliedMask = s.appliedMask := rfl
@[simp] theorem setView_watermark (n : Stream) (v : View) : (s.setView n v).watermark = s.watermark := rfl
@[simp] theorem setView_acks (n : Stream) (v : View) : (s.setView n v).acks = s.acks := rfl
@[simp] theorem setView_pending (n : Stream) (v : View) : (s.setView n v).pending = s.pending := rfl

/-! ### State.setList -/

@[simp] theorem setList_entries (n : Stream) (l : EditList) : (s.setList n l).entries = s.entries := rfl
@[simp] theorem setList_memory (n : Stream) (l : EditList) : (s.setList n l).memory = s.memory := rfl
@[simp] theorem setList_freePages (n : Stream) (l : EditList) : (s.setList n l).freePages = s.freePages := rfl
@[simp] theorem setList_views (n : Stream) (l : EditList) : (s.setList n l).views = s.views := rfl
@[simp] theorem setList_lists (n : Stream) (l : EditList) : (s.setList n l).lists = s.lists.set n l := rfl
@[simp] theorem setList_points (n : Stream) (l : EditList) : (s.setList n l).points = s.points := rfl
@[simp] theorem setList_lines (n : Stream) (l : EditList) : (s.setList n l).lines = s.lines := rfl
@[simp] theorem setList_ports (n : Stream) (l : EditList) : (s.setList n l).ports = s.ports := rfl
@[simp] theorem setList_datapath (n : Stream) (l : EditList) : (s.setList n l).datapath = s.datapath := rfl
@[simp] theorem setList_lastGranted (n : Stream) (l : EditList) : (s.setList n l).lastGranted = s.lastGranted := rfl
@[simp] theorem setList_slots (n : Stream) (l : EditList) : (s.setList n l).slots = s.slots := rfl
@[simp] theorem setList_engine (n : Stream) (l : EditList) : (s.setList n l).engine = s.engine := rfl
@[simp] theorem setList_primaryAddress (n : Stream) (l : EditList) : (s.setList n l).primaryAddress = s.primaryAddress := rfl
@[simp] theorem setList_window (n : Stream) (l : EditList) : (s.setList n l).window = s.window := rfl
@[simp] theorem setList_response (n : Stream) (l : EditList) : (s.setList n l).response = s.response := rfl
@[simp] theorem setList_groupAddress (n : Stream) (l : EditList) : (s.setList n l).groupAddress = s.groupAddress := rfl
@[simp] theorem setList_groupEnabled (n : Stream) (l : EditList) : (s.setList n l).groupEnabled = s.groupEnabled := rfl
@[simp] theorem setList_acknowledger (n : Stream) (l : EditList) : (s.setList n l).acknowledger = s.acknowledger := rfl
@[simp] theorem setList_alerts (n : Stream) (l : EditList) : (s.setList n l).alerts = s.alerts := rfl
@[simp] theorem setList_appliedMask (n : Stream) (l : EditList) : (s.setList n l).appliedMask = s.appliedMask := rfl
@[simp] theorem setList_watermark (n : Stream) (l : EditList) : (s.setList n l).watermark = s.watermark := rfl
@[simp] theorem setList_acks (n : Stream) (l : EditList) : (s.setList n l).acks = s.acks := rfl
@[simp] theorem setList_pending (n : Stream) (l : EditList) : (s.setList n l).pending = s.pending := rfl

/-! ### State.setPoint -/

@[simp] theorem setPoint_entries (n : Stream) (r : PointRecord) : (s.setPoint n r).entries = s.entries := rfl
@[simp] theorem setPoint_memory (n : Stream) (r : PointRecord) : (s.setPoint n r).memory = s.memory := rfl
@[simp] theorem setPoint_freePages (n : Stream) (r : PointRecord) : (s.setPoint n r).freePages = s.freePages := rfl
@[simp] theorem setPoint_views (n : Stream) (r : PointRecord) : (s.setPoint n r).views = s.views := rfl
@[simp] theorem setPoint_lists (n : Stream) (r : PointRecord) : (s.setPoint n r).lists = s.lists := rfl
@[simp] theorem setPoint_points (n : Stream) (r : PointRecord) : (s.setPoint n r).points = s.points.set n r := rfl
@[simp] theorem setPoint_lines (n : Stream) (r : PointRecord) : (s.setPoint n r).lines = s.lines := rfl
@[simp] theorem setPoint_ports (n : Stream) (r : PointRecord) : (s.setPoint n r).ports = s.ports := rfl
@[simp] theorem setPoint_datapath (n : Stream) (r : PointRecord) : (s.setPoint n r).datapath = s.datapath := rfl
@[simp] theorem setPoint_lastGranted (n : Stream) (r : PointRecord) : (s.setPoint n r).lastGranted = s.lastGranted := rfl
@[simp] theorem setPoint_slots (n : Stream) (r : PointRecord) : (s.setPoint n r).slots = s.slots := rfl
@[simp] theorem setPoint_engine (n : Stream) (r : PointRecord) : (s.setPoint n r).engine = s.engine := rfl
@[simp] theorem setPoint_primaryAddress (n : Stream) (r : PointRecord) : (s.setPoint n r).primaryAddress = s.primaryAddress := rfl
@[simp] theorem setPoint_window (n : Stream) (r : PointRecord) : (s.setPoint n r).window = s.window := rfl
@[simp] theorem setPoint_response (n : Stream) (r : PointRecord) : (s.setPoint n r).response = s.response := rfl
@[simp] theorem setPoint_groupAddress (n : Stream) (r : PointRecord) : (s.setPoint n r).groupAddress = s.groupAddress := rfl
@[simp] theorem setPoint_groupEnabled (n : Stream) (r : PointRecord) : (s.setPoint n r).groupEnabled = s.groupEnabled := rfl
@[simp] theorem setPoint_acknowledger (n : Stream) (r : PointRecord) : (s.setPoint n r).acknowledger = s.acknowledger := rfl
@[simp] theorem setPoint_alerts (n : Stream) (r : PointRecord) : (s.setPoint n r).alerts = s.alerts := rfl
@[simp] theorem setPoint_appliedMask (n : Stream) (r : PointRecord) : (s.setPoint n r).appliedMask = s.appliedMask := rfl
@[simp] theorem setPoint_watermark (n : Stream) (r : PointRecord) : (s.setPoint n r).watermark = s.watermark := rfl
@[simp] theorem setPoint_acks (n : Stream) (r : PointRecord) : (s.setPoint n r).acks = s.acks := rfl
@[simp] theorem setPoint_pending (n : Stream) (r : PointRecord) : (s.setPoint n r).pending = s.pending := rfl

/-! ### State.setPort -/

@[simp] theorem setPort_entries (p : Stream) (x : Port) : (s.setPort p x).entries = s.entries := rfl
@[simp] theorem setPort_memory (p : Stream) (x : Port) : (s.setPort p x).memory = s.memory := rfl
@[simp] theorem setPort_freePages (p : Stream) (x : Port) : (s.setPort p x).freePages = s.freePages := rfl
@[simp] theorem setPort_views (p : Stream) (x : Port) : (s.setPort p x).views = s.views := rfl
@[simp] theorem setPort_lists (p : Stream) (x : Port) : (s.setPort p x).lists = s.lists := rfl
@[simp] theorem setPort_points (p : Stream) (x : Port) : (s.setPort p x).points = s.points := rfl
@[simp] theorem setPort_lines (p : Stream) (x : Port) : (s.setPort p x).lines = s.lines := rfl
@[simp] theorem setPort_ports (p : Stream) (x : Port) : (s.setPort p x).ports = s.ports.set p x := rfl
@[simp] theorem setPort_datapath (p : Stream) (x : Port) : (s.setPort p x).datapath = s.datapath := rfl
@[simp] theorem setPort_lastGranted (p : Stream) (x : Port) : (s.setPort p x).lastGranted = s.lastGranted := rfl
@[simp] theorem setPort_slots (p : Stream) (x : Port) : (s.setPort p x).slots = s.slots := rfl
@[simp] theorem setPort_engine (p : Stream) (x : Port) : (s.setPort p x).engine = s.engine := rfl
@[simp] theorem setPort_primaryAddress (p : Stream) (x : Port) : (s.setPort p x).primaryAddress = s.primaryAddress := rfl
@[simp] theorem setPort_window (p : Stream) (x : Port) : (s.setPort p x).window = s.window := rfl
@[simp] theorem setPort_response (p : Stream) (x : Port) : (s.setPort p x).response = s.response := rfl
@[simp] theorem setPort_groupAddress (p : Stream) (x : Port) : (s.setPort p x).groupAddress = s.groupAddress := rfl
@[simp] theorem setPort_groupEnabled (p : Stream) (x : Port) : (s.setPort p x).groupEnabled = s.groupEnabled := rfl
@[simp] theorem setPort_acknowledger (p : Stream) (x : Port) : (s.setPort p x).acknowledger = s.acknowledger := rfl
@[simp] theorem setPort_alerts (p : Stream) (x : Port) : (s.setPort p x).alerts = s.alerts := rfl
@[simp] theorem setPort_appliedMask (p : Stream) (x : Port) : (s.setPort p x).appliedMask = s.appliedMask := rfl
@[simp] theorem setPort_watermark (p : Stream) (x : Port) : (s.setPort p x).watermark = s.watermark := rfl
@[simp] theorem setPort_acks (p : Stream) (x : Port) : (s.setPort p x).acks = s.acks := rfl
@[simp] theorem setPort_pending (p : Stream) (x : Port) : (s.setPort p x).pending = s.pending := rfl

/-! ### State.setSlot -/

@[simp] theorem setSlot_entries (n : Stream) (x : Slot) : (s.setSlot n x).entries = s.entries := rfl
@[simp] theorem setSlot_memory (n : Stream) (x : Slot) : (s.setSlot n x).memory = s.memory := rfl
@[simp] theorem setSlot_freePages (n : Stream) (x : Slot) : (s.setSlot n x).freePages = s.freePages := rfl
@[simp] theorem setSlot_views (n : Stream) (x : Slot) : (s.setSlot n x).views = s.views := rfl
@[simp] theorem setSlot_lists (n : Stream) (x : Slot) : (s.setSlot n x).lists = s.lists := rfl
@[simp] theorem setSlot_points (n : Stream) (x : Slot) : (s.setSlot n x).points = s.points := rfl
@[simp] theorem setSlot_lines (n : Stream) (x : Slot) : (s.setSlot n x).lines = s.lines := rfl
@[simp] theorem setSlot_ports (n : Stream) (x : Slot) : (s.setSlot n x).ports = s.ports := rfl
@[simp] theorem setSlot_datapath (n : Stream) (x : Slot) : (s.setSlot n x).datapath = s.datapath := rfl
@[simp] theorem setSlot_lastGranted (n : Stream) (x : Slot) : (s.setSlot n x).lastGranted = s.lastGranted := rfl
@[simp] theorem setSlot_slots (n : Stream) (x : Slot) : (s.setSlot n x).slots = s.slots.set n x := rfl
@[simp] theorem setSlot_engine (n : Stream) (x : Slot) : (s.setSlot n x).engine = s.engine := rfl
@[simp] theorem setSlot_primaryAddress (n : Stream) (x : Slot) : (s.setSlot n x).primaryAddress = s.primaryAddress := rfl
@[simp] theorem setSlot_window (n : Stream) (x : Slot) : (s.setSlot n x).window = s.window := rfl
@[simp] theorem setSlot_response (n : Stream) (x : Slot) : (s.setSlot n x).response = s.response := rfl
@[simp] theorem setSlot_groupAddress (n : Stream) (x : Slot) : (s.setSlot n x).groupAddress = s.groupAddress := rfl
@[simp] theorem setSlot_groupEnabled (n : Stream) (x : Slot) : (s.setSlot n x).groupEnabled = s.groupEnabled := rfl
@[simp] theorem setSlot_acknowledger (n : Stream) (x : Slot) : (s.setSlot n x).acknowledger = s.acknowledger := rfl
@[simp] theorem setSlot_alerts (n : Stream) (x : Slot) : (s.setSlot n x).alerts = s.alerts := rfl
@[simp] theorem setSlot_appliedMask (n : Stream) (x : Slot) : (s.setSlot n x).appliedMask = s.appliedMask := rfl
@[simp] theorem setSlot_watermark (n : Stream) (x : Slot) : (s.setSlot n x).watermark = s.watermark := rfl
@[simp] theorem setSlot_acks (n : Stream) (x : Slot) : (s.setSlot n x).acks = s.acks := rfl
@[simp] theorem setSlot_pending (n : Stream) (x : Slot) : (s.setSlot n x).pending = s.pending := rfl

/-! ### State.raise -/

@[simp] theorem raise_entries (a : Alert) : (s.raise a).entries = s.entries := rfl
@[simp] theorem raise_memory (a : Alert) : (s.raise a).memory = s.memory := rfl
@[simp] theorem raise_freePages (a : Alert) : (s.raise a).freePages = s.freePages := rfl
@[simp] theorem raise_views (a : Alert) : (s.raise a).views = s.views := rfl
@[simp] theorem raise_lists (a : Alert) : (s.raise a).lists = s.lists := rfl
@[simp] theorem raise_points (a : Alert) : (s.raise a).points = s.points := rfl
@[simp] theorem raise_lines (a : Alert) : (s.raise a).lines = s.lines := rfl
@[simp] theorem raise_ports (a : Alert) : (s.raise a).ports = s.ports := rfl
@[simp] theorem raise_datapath (a : Alert) : (s.raise a).datapath = s.datapath := rfl
@[simp] theorem raise_lastGranted (a : Alert) : (s.raise a).lastGranted = s.lastGranted := rfl
@[simp] theorem raise_slots (a : Alert) : (s.raise a).slots = s.slots := rfl
@[simp] theorem raise_engine (a : Alert) : (s.raise a).engine = s.engine := rfl
@[simp] theorem raise_primaryAddress (a : Alert) : (s.raise a).primaryAddress = s.primaryAddress := rfl
@[simp] theorem raise_window (a : Alert) : (s.raise a).window = s.window := rfl
@[simp] theorem raise_response (a : Alert) : (s.raise a).response = s.response := rfl
@[simp] theorem raise_groupAddress (a : Alert) : (s.raise a).groupAddress = s.groupAddress := rfl
@[simp] theorem raise_groupEnabled (a : Alert) : (s.raise a).groupEnabled = s.groupEnabled := rfl
@[simp] theorem raise_acknowledger (a : Alert) : (s.raise a).acknowledger = s.acknowledger := rfl
@[simp] theorem raise_alerts (a : Alert) : (s.raise a).alerts = insertAlert a s.alerts := rfl
@[simp] theorem raise_appliedMask (a : Alert) : (s.raise a).appliedMask = s.appliedMask := rfl
@[simp] theorem raise_watermark (a : Alert) : (s.raise a).watermark = s.watermark := rfl
@[simp] theorem raise_acks (a : Alert) : (s.raise a).acks = s.acks := rfl
@[simp] theorem raise_pending (a : Alert) : (s.raise a).pending = s.pending := rfl

/-! ### State.respond -/

@[simp] theorem respond_entries (tag code : Byte) (r : Result) (d : List Byte) : (s.respond tag code r d).entries = s.entries := rfl
@[simp] theorem respond_memory (tag code : Byte) (r : Result) (d : List Byte) : (s.respond tag code r d).memory = s.memory := rfl
@[simp] theorem respond_freePages (tag code : Byte) (r : Result) (d : List Byte) : (s.respond tag code r d).freePages = s.freePages := rfl
@[simp] theorem respond_views (tag code : Byte) (r : Result) (d : List Byte) : (s.respond tag code r d).views = s.views := rfl
@[simp] theorem respond_lists (tag code : Byte) (r : Result) (d : List Byte) : (s.respond tag code r d).lists = s.lists := rfl
@[simp] theorem respond_points (tag code : Byte) (r : Result) (d : List Byte) : (s.respond tag code r d).points = s.points := rfl
@[simp] theorem respond_lines (tag code : Byte) (r : Result) (d : List Byte) : (s.respond tag code r d).lines = s.lines := rfl
@[simp] theorem respond_ports (tag code : Byte) (r : Result) (d : List Byte) : (s.respond tag code r d).ports = s.ports := rfl
@[simp] theorem respond_datapath (tag code : Byte) (r : Result) (d : List Byte) : (s.respond tag code r d).datapath = s.datapath := rfl
@[simp] theorem respond_lastGranted (tag code : Byte) (r : Result) (d : List Byte) : (s.respond tag code r d).lastGranted = s.lastGranted := rfl
@[simp] theorem respond_slots (tag code : Byte) (r : Result) (d : List Byte) : (s.respond tag code r d).slots = s.slots := rfl
@[simp] theorem respond_engine (tag code : Byte) (r : Result) (d : List Byte) : (s.respond tag code r d).engine = s.engine := rfl
@[simp] theorem respond_primaryAddress (tag code : Byte) (r : Result) (d : List Byte) : (s.respond tag code r d).primaryAddress = s.primaryAddress := rfl
@[simp] theorem respond_window (tag code : Byte) (r : Result) (d : List Byte) : (s.respond tag code r d).window = s.window := rfl
@[simp] theorem respond_response (tag code : Byte) (r : Result) (d : List Byte) : (s.respond tag code r d).response = { tag := tag, code := code, result := r, data := d } := rfl
@[simp] theorem respond_groupAddress (tag code : Byte) (r : Result) (d : List Byte) : (s.respond tag code r d).groupAddress = s.groupAddress := rfl
@[simp] theorem respond_groupEnabled (tag code : Byte) (r : Result) (d : List Byte) : (s.respond tag code r d).groupEnabled = s.groupEnabled := rfl
@[simp] theorem respond_acknowledger (tag code : Byte) (r : Result) (d : List Byte) : (s.respond tag code r d).acknowledger = s.acknowledger := rfl
@[simp] theorem respond_alerts (tag code : Byte) (r : Result) (d : List Byte) : (s.respond tag code r d).alerts = s.alerts := rfl
@[simp] theorem respond_appliedMask (tag code : Byte) (r : Result) (d : List Byte) : (s.respond tag code r d).appliedMask = s.appliedMask := rfl
@[simp] theorem respond_watermark (tag code : Byte) (r : Result) (d : List Byte) : (s.respond tag code r d).watermark = s.watermark := rfl
@[simp] theorem respond_acks (tag code : Byte) (r : Result) (d : List Byte) : (s.respond tag code r d).acks = s.acks := rfl
@[simp] theorem respond_pending (tag code : Byte) (r : Result) (d : List Byte) : (s.respond tag code r d).pending = s.pending := rfl

/-! ### State.selectWindow -/

@[simp] theorem selectWindow_entries (w : Window) (acks : List Bool) : (s.selectWindow w acks).entries = s.entries := rfl
@[simp] theorem selectWindow_memory (w : Window) (acks : List Bool) : (s.selectWindow w acks).memory = s.memory := rfl
@[simp] theorem selectWindow_freePages (w : Window) (acks : List Bool) : (s.selectWindow w acks).freePages = s.freePages := rfl
@[simp] theorem selectWindow_views (w : Window) (acks : List Bool) : (s.selectWindow w acks).views = s.views := rfl
@[simp] theorem selectWindow_lists (w : Window) (acks : List Bool) : (s.selectWindow w acks).lists = s.lists := rfl
@[simp] theorem selectWindow_points (w : Window) (acks : List Bool) : (s.selectWindow w acks).points = s.points := rfl
@[simp] theorem selectWindow_lines (w : Window) (acks : List Bool) : (s.selectWindow w acks).lines = s.lines := rfl
@[simp] theorem selectWindow_ports (w : Window) (acks : List Bool) : (s.selectWindow w acks).ports = s.ports := rfl
@[simp] theorem selectWindow_datapath (w : Window) (acks : List Bool) : (s.selectWindow w acks).datapath = s.datapath := rfl
@[simp] theorem selectWindow_lastGranted (w : Window) (acks : List Bool) : (s.selectWindow w acks).lastGranted = s.lastGranted := rfl
@[simp] theorem selectWindow_slots (w : Window) (acks : List Bool) : (s.selectWindow w acks).slots = s.slots := rfl
@[simp] theorem selectWindow_engine (w : Window) (acks : List Bool) : (s.selectWindow w acks).engine = s.engine := rfl
@[simp] theorem selectWindow_primaryAddress (w : Window) (acks : List Bool) : (s.selectWindow w acks).primaryAddress = s.primaryAddress := rfl
@[simp] theorem selectWindow_window (w : Window) (acks : List Bool) : (s.selectWindow w acks).window = some w := rfl
@[simp] theorem selectWindow_response (w : Window) (acks : List Bool) : (s.selectWindow w acks).response = s.response := rfl
@[simp] theorem selectWindow_groupAddress (w : Window) (acks : List Bool) : (s.selectWindow w acks).groupAddress = s.groupAddress := rfl
@[simp] theorem selectWindow_groupEnabled (w : Window) (acks : List Bool) : (s.selectWindow w acks).groupEnabled = s.groupEnabled := rfl
@[simp] theorem selectWindow_acknowledger (w : Window) (acks : List Bool) : (s.selectWindow w acks).acknowledger = s.acknowledger := rfl
@[simp] theorem selectWindow_alerts (w : Window) (acks : List Bool) : (s.selectWindow w acks).alerts = s.alerts := rfl
@[simp] theorem selectWindow_appliedMask (w : Window) (acks : List Bool) : (s.selectWindow w acks).appliedMask = s.appliedMask := rfl
@[simp] theorem selectWindow_watermark (w : Window) (acks : List Bool) : (s.selectWindow w acks).watermark = s.watermark := rfl
@[simp] theorem selectWindow_acks (w : Window) (acks : List Bool) : (s.selectWindow w acks).acks = acks := rfl
@[simp] theorem selectWindow_pending (w : Window) (acks : List Bool) : (s.selectWindow w acks).pending = s.pending := rfl

/-! ### State.startJob -/

@[simp] theorem startJob_entries (tag code : Byte) (job : Job) : (s.startJob tag code job).entries = s.entries := rfl
@[simp] theorem startJob_memory (tag code : Byte) (job : Job) : (s.startJob tag code job).memory = s.memory := rfl
@[simp] theorem startJob_freePages (tag code : Byte) (job : Job) : (s.startJob tag code job).freePages = s.freePages := rfl
@[simp] theorem startJob_views (tag code : Byte) (job : Job) : (s.startJob tag code job).views = s.views := rfl
@[simp] theorem startJob_lists (tag code : Byte) (job : Job) : (s.startJob tag code job).lists = s.lists := rfl
@[simp] theorem startJob_points (tag code : Byte) (job : Job) : (s.startJob tag code job).points = s.points := rfl
@[simp] theorem startJob_lines (tag code : Byte) (job : Job) : (s.startJob tag code job).lines = s.lines := rfl
@[simp] theorem startJob_ports (tag code : Byte) (job : Job) : (s.startJob tag code job).ports = s.ports := rfl
@[simp] theorem startJob_datapath (tag code : Byte) (job : Job) : (s.startJob tag code job).datapath = s.datapath := rfl
@[simp] theorem startJob_lastGranted (tag code : Byte) (job : Job) : (s.startJob tag code job).lastGranted = s.lastGranted := rfl
@[simp] theorem startJob_slots (tag code : Byte) (job : Job) : (s.startJob tag code job).slots = s.slots := rfl
@[simp] theorem startJob_engine (tag code : Byte) (job : Job) : (s.startJob tag code job).engine = .busy tag job := rfl
@[simp] theorem startJob_primaryAddress (tag code : Byte) (job : Job) : (s.startJob tag code job).primaryAddress = s.primaryAddress := rfl
@[simp] theorem startJob_window (tag code : Byte) (job : Job) : (s.startJob tag code job).window = s.window := rfl
@[simp] theorem startJob_response (tag code : Byte) (job : Job) : (s.startJob tag code job).response = { tag := tag, code := code, result := .none_, data := [] } := rfl
@[simp] theorem startJob_groupAddress (tag code : Byte) (job : Job) : (s.startJob tag code job).groupAddress = s.groupAddress := rfl
@[simp] theorem startJob_groupEnabled (tag code : Byte) (job : Job) : (s.startJob tag code job).groupEnabled = s.groupEnabled := rfl
@[simp] theorem startJob_acknowledger (tag code : Byte) (job : Job) : (s.startJob tag code job).acknowledger = s.acknowledger := rfl
@[simp] theorem startJob_alerts (tag code : Byte) (job : Job) : (s.startJob tag code job).alerts = s.alerts := rfl
@[simp] theorem startJob_appliedMask (tag code : Byte) (job : Job) : (s.startJob tag code job).appliedMask = s.appliedMask := rfl
@[simp] theorem startJob_watermark (tag code : Byte) (job : Job) : (s.startJob tag code job).watermark = s.watermark := rfl
@[simp] theorem startJob_acks (tag code : Byte) (job : Job) : (s.startJob tag code job).acks = s.acks := rfl
@[simp] theorem startJob_pending (tag code : Byte) (job : Job) : (s.startJob tag code job).pending = s.pending := rfl

/-! ### State.endJob -/

@[simp] theorem endJob_entries (tag code : Byte) (r : Result) (d : List Byte) : (s.endJob tag code r d).entries = s.entries := rfl
@[simp] theorem endJob_memory (tag code : Byte) (r : Result) (d : List Byte) : (s.endJob tag code r d).memory = s.memory := rfl
@[simp] theorem endJob_freePages (tag code : Byte) (r : Result) (d : List Byte) : (s.endJob tag code r d).freePages = s.freePages := rfl
@[simp] theorem endJob_views (tag code : Byte) (r : Result) (d : List Byte) : (s.endJob tag code r d).views = s.views := rfl
@[simp] theorem endJob_lists (tag code : Byte) (r : Result) (d : List Byte) : (s.endJob tag code r d).lists = s.lists := rfl
@[simp] theorem endJob_points (tag code : Byte) (r : Result) (d : List Byte) : (s.endJob tag code r d).points = s.points := rfl
@[simp] theorem endJob_lines (tag code : Byte) (r : Result) (d : List Byte) : (s.endJob tag code r d).lines = s.lines := rfl
@[simp] theorem endJob_ports (tag code : Byte) (r : Result) (d : List Byte) : (s.endJob tag code r d).ports = s.ports := rfl
@[simp] theorem endJob_datapath (tag code : Byte) (r : Result) (d : List Byte) : (s.endJob tag code r d).datapath = s.datapath := rfl
@[simp] theorem endJob_lastGranted (tag code : Byte) (r : Result) (d : List Byte) : (s.endJob tag code r d).lastGranted = s.lastGranted := rfl
@[simp] theorem endJob_slots (tag code : Byte) (r : Result) (d : List Byte) : (s.endJob tag code r d).slots = s.slots := rfl
@[simp] theorem endJob_engine (tag code : Byte) (r : Result) (d : List Byte) : (s.endJob tag code r d).engine = .idle := rfl
@[simp] theorem endJob_primaryAddress (tag code : Byte) (r : Result) (d : List Byte) : (s.endJob tag code r d).primaryAddress = s.primaryAddress := rfl
@[simp] theorem endJob_window (tag code : Byte) (r : Result) (d : List Byte) : (s.endJob tag code r d).window = s.window := rfl
@[simp] theorem endJob_response (tag code : Byte) (r : Result) (d : List Byte) : (s.endJob tag code r d).response = { tag := tag, code := code, result := r, data := d } := rfl
@[simp] theorem endJob_groupAddress (tag code : Byte) (r : Result) (d : List Byte) : (s.endJob tag code r d).groupAddress = s.groupAddress := rfl
@[simp] theorem endJob_groupEnabled (tag code : Byte) (r : Result) (d : List Byte) : (s.endJob tag code r d).groupEnabled = s.groupEnabled := rfl
@[simp] theorem endJob_acknowledger (tag code : Byte) (r : Result) (d : List Byte) : (s.endJob tag code r d).acknowledger = s.acknowledger := rfl
@[simp] theorem endJob_alerts (tag code : Byte) (r : Result) (d : List Byte) : (s.endJob tag code r d).alerts = s.alerts := rfl
@[simp] theorem endJob_appliedMask (tag code : Byte) (r : Result) (d : List Byte) : (s.endJob tag code r d).appliedMask = s.appliedMask := rfl
@[simp] theorem endJob_watermark (tag code : Byte) (r : Result) (d : List Byte) : (s.endJob tag code r d).watermark = s.watermark := rfl
@[simp] theorem endJob_acks (tag code : Byte) (r : Result) (d : List Byte) : (s.endJob tag code r d).acks = s.acks := rfl
@[simp] theorem endJob_pending (tag code : Byte) (r : Result) (d : List Byte) : (s.endJob tag code r d).pending = s.pending := rfl

/-! ### State.modPort -/

@[simp] theorem modPort_entries (p : Stream) (f : Port → Port) : (s.modPort p f).entries = s.entries := rfl
@[simp] theorem modPort_memory (p : Stream) (f : Port → Port) : (s.modPort p f).memory = s.memory := rfl
@[simp] theorem modPort_freePages (p : Stream) (f : Port → Port) : (s.modPort p f).freePages = s.freePages := rfl
@[simp] theorem modPort_views (p : Stream) (f : Port → Port) : (s.modPort p f).views = s.views := rfl
@[simp] theorem modPort_lists (p : Stream) (f : Port → Port) : (s.modPort p f).lists = s.lists := rfl
@[simp] theorem modPort_points (p : Stream) (f : Port → Port) : (s.modPort p f).points = s.points := rfl
@[simp] theorem modPort_lines (p : Stream) (f : Port → Port) : (s.modPort p f).lines = s.lines := rfl
@[simp] theorem modPort_ports (p : Stream) (f : Port → Port) : (s.modPort p f).ports = s.ports.set p (f s.ports[p]) := rfl
@[simp] theorem modPort_datapath (p : Stream) (f : Port → Port) : (s.modPort p f).datapath = s.datapath := rfl
@[simp] theorem modPort_lastGranted (p : Stream) (f : Port → Port) : (s.modPort p f).lastGranted = s.lastGranted := rfl
@[simp] theorem modPort_slots (p : Stream) (f : Port → Port) : (s.modPort p f).slots = s.slots := rfl
@[simp] theorem modPort_engine (p : Stream) (f : Port → Port) : (s.modPort p f).engine = s.engine := rfl
@[simp] theorem modPort_primaryAddress (p : Stream) (f : Port → Port) : (s.modPort p f).primaryAddress = s.primaryAddress := rfl
@[simp] theorem modPort_window (p : Stream) (f : Port → Port) : (s.modPort p f).window = s.window := rfl
@[simp] theorem modPort_response (p : Stream) (f : Port → Port) : (s.modPort p f).response = s.response := rfl
@[simp] theorem modPort_groupAddress (p : Stream) (f : Port → Port) : (s.modPort p f).groupAddress = s.groupAddress := rfl
@[simp] theorem modPort_groupEnabled (p : Stream) (f : Port → Port) : (s.modPort p f).groupEnabled = s.groupEnabled := rfl
@[simp] theorem modPort_acknowledger (p : Stream) (f : Port → Port) : (s.modPort p f).acknowledger = s.acknowledger := rfl
@[simp] theorem modPort_alerts (p : Stream) (f : Port → Port) : (s.modPort p f).alerts = s.alerts := rfl
@[simp] theorem modPort_appliedMask (p : Stream) (f : Port → Port) : (s.modPort p f).appliedMask = s.appliedMask := rfl
@[simp] theorem modPort_watermark (p : Stream) (f : Port → Port) : (s.modPort p f).watermark = s.watermark := rfl
@[simp] theorem modPort_acks (p : Stream) (f : Port → Port) : (s.modPort p f).acks = s.acks := rfl
@[simp] theorem modPort_pending (p : Stream) (f : Port → Port) : (s.modPort p f).pending = s.pending := rfl

/-! ### State.send -/

@[simp] theorem send_entries (p : Stream) (ms : List OutMessage) : (s.send p ms).entries = s.entries := rfl
@[simp] theorem send_memory (p : Stream) (ms : List OutMessage) : (s.send p ms).memory = s.memory := rfl
@[simp] theorem send_freePages (p : Stream) (ms : List OutMessage) : (s.send p ms).freePages = s.freePages := rfl
@[simp] theorem send_views (p : Stream) (ms : List OutMessage) : (s.send p ms).views = s.views := rfl
@[simp] theorem send_lists (p : Stream) (ms : List OutMessage) : (s.send p ms).lists = s.lists := rfl
@[simp] theorem send_points (p : Stream) (ms : List OutMessage) : (s.send p ms).points = s.points := rfl
@[simp] theorem send_lines (p : Stream) (ms : List OutMessage) : (s.send p ms).lines = s.lines := rfl
@[simp] theorem send_ports (p : Stream) (ms : List OutMessage) : (s.send p ms).ports = s.ports.set p { s.ports[p] with out := s.ports[p].out ++ ms } := rfl
@[simp] theorem send_datapath (p : Stream) (ms : List OutMessage) : (s.send p ms).datapath = s.datapath := rfl
@[simp] theorem send_lastGranted (p : Stream) (ms : List OutMessage) : (s.send p ms).lastGranted = s.lastGranted := rfl
@[simp] theorem send_slots (p : Stream) (ms : List OutMessage) : (s.send p ms).slots = s.slots := rfl
@[simp] theorem send_engine (p : Stream) (ms : List OutMessage) : (s.send p ms).engine = s.engine := rfl
@[simp] theorem send_primaryAddress (p : Stream) (ms : List OutMessage) : (s.send p ms).primaryAddress = s.primaryAddress := rfl
@[simp] theorem send_window (p : Stream) (ms : List OutMessage) : (s.send p ms).window = s.window := rfl
@[simp] theorem send_response (p : Stream) (ms : List OutMessage) : (s.send p ms).response = s.response := rfl
@[simp] theorem send_groupAddress (p : Stream) (ms : List OutMessage) : (s.send p ms).groupAddress = s.groupAddress := rfl
@[simp] theorem send_groupEnabled (p : Stream) (ms : List OutMessage) : (s.send p ms).groupEnabled = s.groupEnabled := rfl
@[simp] theorem send_acknowledger (p : Stream) (ms : List OutMessage) : (s.send p ms).acknowledger = s.acknowledger := rfl
@[simp] theorem send_alerts (p : Stream) (ms : List OutMessage) : (s.send p ms).alerts = s.alerts := rfl
@[simp] theorem send_appliedMask (p : Stream) (ms : List OutMessage) : (s.send p ms).appliedMask = s.appliedMask := rfl
@[simp] theorem send_watermark (p : Stream) (ms : List OutMessage) : (s.send p ms).watermark = s.watermark := rfl
@[simp] theorem send_acks (p : Stream) (ms : List OutMessage) : (s.send p ms).acks = s.acks := rfl
@[simp] theorem send_pending (p : Stream) (ms : List OutMessage) : (s.send p ms).pending = s.pending := rfl

/-! ### Reading one record back -/

/-- The record that `setEntry` writes. -/
theorem setEntry_get_same (i : EntryIndex) (e : Entry) : (s.setEntry i e).entries[i] = e := by
  simp only [setEntry_entries, Fin.getElem_fin, Vector.getElem_set_self]

/-- The records that `setEntry` leaves. -/
theorem setEntry_get_other (i j : EntryIndex) (e : Entry) (h : j ≠ i) : (s.setEntry i e).entries[j] = s.entries[j] := by
  have h' : i.val ≠ j.val := fun e => h (Fin.ext e.symm)
  simp only [setEntry_entries, Fin.getElem_fin, Vector.getElem_set, if_neg h']

/-- The record that `setView` writes. -/
theorem setView_get_same (i : Stream) (v : View) : (s.setView i v).views[i] = v := by
  simp only [setView_views, Fin.getElem_fin, Vector.getElem_set_self]

/-- The records that `setView` leaves. -/
theorem setView_get_other (i j : Stream) (v : View) (h : j ≠ i) : (s.setView i v).views[j] = s.views[j] := by
  have h' : i.val ≠ j.val := fun e => h (Fin.ext e.symm)
  simp only [setView_views, Fin.getElem_fin, Vector.getElem_set, if_neg h']

/-- The record that `setList` writes. -/
theorem setList_get_same (i : Stream) (l : EditList) : (s.setList i l).lists[i] = l := by
  simp only [setList_lists, Fin.getElem_fin, Vector.getElem_set_self]

/-- The records that `setList` leaves. -/
theorem setList_get_other (i j : Stream) (l : EditList) (h : j ≠ i) : (s.setList i l).lists[j] = s.lists[j] := by
  have h' : i.val ≠ j.val := fun e => h (Fin.ext e.symm)
  simp only [setList_lists, Fin.getElem_fin, Vector.getElem_set, if_neg h']

/-- The record that `setPoint` writes. -/
theorem setPoint_get_same (i : Stream) (r : PointRecord) : (s.setPoint i r).points[i] = r := by
  simp only [setPoint_points, Fin.getElem_fin, Vector.getElem_set_self]

/-- The records that `setPoint` leaves. -/
theorem setPoint_get_other (i j : Stream) (r : PointRecord) (h : j ≠ i) : (s.setPoint i r).points[j] = s.points[j] := by
  have h' : i.val ≠ j.val := fun e => h (Fin.ext e.symm)
  simp only [setPoint_points, Fin.getElem_fin, Vector.getElem_set, if_neg h']

/-- The record that `setPort` writes. -/
theorem setPort_get_same (i : Stream) (x : Port) : (s.setPort i x).ports[i] = x := by
  simp only [setPort_ports, Fin.getElem_fin, Vector.getElem_set_self]

/-- The records that `setPort` leaves. -/
theorem setPort_get_other (i j : Stream) (x : Port) (h : j ≠ i) : (s.setPort i x).ports[j] = s.ports[j] := by
  have h' : i.val ≠ j.val := fun e => h (Fin.ext e.symm)
  simp only [setPort_ports, Fin.getElem_fin, Vector.getElem_set, if_neg h']

/-- The record that `setSlot` writes. -/
theorem setSlot_get_same (i : Stream) (x : Slot) : (s.setSlot i x).slots[i] = x := by
  simp only [setSlot_slots, Fin.getElem_fin, Vector.getElem_set_self]

/-- The records that `setSlot` leaves. -/
theorem setSlot_get_other (i j : Stream) (x : Slot) (h : j ≠ i) : (s.setSlot i x).slots[j] = s.slots[j] := by
  have h' : i.val ≠ j.val := fun e => h (Fin.ext e.symm)
  simp only [setSlot_slots, Fin.getElem_fin, Vector.getElem_set, if_neg h']

end Sys2Proof.Machine
end

