-- ==== Sys2Proof/Laws/Ops.lean ====
section
/-! SUPPORT. What the shared operations do: one lemma for each, to cite in place of unfolding it. -/

namespace Sys2Proof.Machine

open Sys2Proof.Safety

/-! ### Requests taken or turned away (R165 to R169) -/

theorem onRequest_idle {s : State} (len : Nat) (f : State → State) (h : s.engine = .idle) :
    s.onRequest len f = f (s.selectWindow .request (List.replicate (len + 1) true)) := by
  unfold State.onRequest
  rw [h, List.replicate_succ]

theorem onRequest_not_idle {s : State} (len : Nat) (f : State → State) (h : s.engine ≠ .idle) :
    s.onRequest len f = s.selectWindow .request (true :: List.replicate len false) := by
  unfold State.onRequest
  split
  · next e => exact absurd e h
  · rfl
  · rfl

theorem onMessage_idle {s : State} (message : List Byte) (f : State → State) (h : s.engine = .idle) :
    s.onMessage message f = f (s.selectWindow .request (requestAcks message)) := by
  unfold State.onMessage
  rw [h]

theorem onMessage_not_idle {s : State} (message : List Byte) (f : State → State) (h : s.engine ≠ .idle) :
    s.onMessage message f = s.selectWindow .request (true :: List.replicate message.length false) := by
  unfold State.onMessage
  split
  · next e => exact absurd e h
  · rfl
  · rfl

theorem length_encodeRequest (tag : Byte) (r : Request) : (encodeRequest tag r).length = r.params.length + 3 := rfl

/-- Every byte of a request message of at most 64 parameter bytes is acknowledged (R166). -/
theorem requestAcks_encodeRequest (tag : Byte) (r : Request) (h : r.params.length ≤ 64) :
    requestAcks (encodeRequest tag r) = List.replicate (r.params.length + 4) true := by
  have hl : (BitVec.ofNat 8 r.params.length).toNat = r.params.length := by simp; omega
  unfold requestAcks
  rw [length_encodeRequest, List.replicate_succ]
  congr 1
  apply List.eq_replicate_iff.mpr
  refine ⟨by simp, ?_⟩
  intro b hb
  obtain ⟨i, hi, rfl⟩ := List.mem_map.mp hb
  have hlt := List.mem_range.mp hi
  simp only [encodeRequest, ackRequestByte, hl]
  by_cases h3 : i < 3
  · simp [h3]
  · simp only [h3, decide_false, Bool.false_or, Bool.and_eq_true, decide_eq_true_eq]
    omega

/-- A taken request's response, in the words of the statements. -/
theorem selectWindow_respond (s : State) (len : Nat) (tag code : Byte) (r : Result) (d : List Byte) :
    (s.selectWindow .request (List.replicate (len + 1) true)).respond tag code r d = answered s len tag code r d := rfl

/-! ### Operands (R5, R7, R57, R181) -/

theorem streamOf_some {b : Byte} {n : Stream} (h : StreamByte b n) : streamOf b = some n := by
  have hb : b.toNat = n.val := h
  have hlt : b.toNat < 4 := by omega
  unfold streamOf
  rw [dif_pos hlt]
  exact congrArg some (Fin.ext hb)

theorem streamOf_none {b : Byte} (h : 4 ≤ b.toNat) : streamOf b = none := by
  unfold streamOf
  rw [dif_neg (by omega)]

theorem streamByte_eq {b : Byte} {n : Stream} (h : StreamByte b n) : streamByte n = b := by
  have hb : b.toNat = n.val := h
  unfold streamByte
  rw [← hb]
  simp

theorem maskOf_some {b : Byte} {m : StreamMask} (h : MaskByte b m) : maskOf b = some m := by
  have hb : b.toNat = m.toNat := h
  unfold maskOf
  rw [if_pos (by omega), hb]
  simp

theorem maskOf_none {b : Byte} (h : 16 ≤ b.toNat) : maskOf b = none := by
  unfold maskOf
  rw [if_neg (by omega)]

theorem maskByte_eq {b : Byte} {m : StreamMask} (h : MaskByte b m) : maskByte m = b := by
  have hb : b.toNat = m.toNat := h
  unfold maskByte
  rw [← hb]
  simp

theorem geometryOf_some {c r ch : Byte} {g : Geometry} (h : GridBytes c r ch g) : geometryOf c r ch = some g := by
  obtain ⟨⟨h1, h2, h3, h4, h5⟩, h6, h7, h8⟩ := h
  unfold geometryOf
  rw [if_pos]
  · cases g; simp_all
  · refine ⟨by omega, by omega, by omega, by omega, ?_⟩
    rcases h5 with h5 | h5
    · left; apply BitVec.eq_of_toNat_eq; simp; omega
    · right; apply BitVec.eq_of_toNat_eq; simp; omega

theorem geometryOf_none {c r ch : Byte} (h : ¬ ∃ g, GridBytes c r ch g) : geometryOf c r ch = none := by
  unfold geometryOf
  rw [if_neg]
  rintro ⟨h1, h2, h3, h4, h5⟩
  apply h
  refine ⟨⟨c.toNat, r.toNat, ch.toNat⟩, ⟨h1, h2, h3, h4, ?_⟩, rfl, rfl, rfl⟩
  rcases h5 with h5 | h5 <;> simp [h5]

theorem formatOf_some {b : Byte} {f : Format} (h : FormatByte b f) : formatOf b = some f := by
  simp only [FormatByte, List.mem_cons, Prod.mk.injEq, List.not_mem_nil, or_false] at h
  rcases h with ⟨rfl, rfl⟩ | ⟨rfl, rfl⟩ | ⟨rfl, rfl⟩ <;> rfl

theorem formatOf_none {b : Byte} (h : ¬ ∃ f, FormatByte b f) : formatOf b = none := by
  unfold formatOf
  split
  · next e => exact absurd ⟨.uq1_11, by simp [FormatByte, e]⟩ h
  · split
    · next e => exact absurd ⟨.uq2_10, by simp [FormatByte, e]⟩ h
    · split
      · next e => exact absurd ⟨.uq3_9, by simp [FormatByte, e]⟩ h
      · rfl

theorem format_byte_eq {b : Byte} {f : Format} (h : FormatByte b f) : f.byte = b := by
  simp only [FormatByte, List.mem_cons, Prod.mk.injEq, List.not_mem_nil, or_false] at h
  rcases h with ⟨rfl, rfl⟩ | ⟨rfl, rfl⟩ | ⟨rfl, rfl⟩ <;> rfl

theorem geometry_bytes_eq {c r ch : Byte} {g : Geometry} (h : GridBytes c r ch g) : g.bytes = [c, r, ch] := by
  obtain ⟨-, h6, h7, h8⟩ := h
  unfold Geometry.bytes byteOf
  rw [h6, h7, h8]
  simp

theorem checkHandle_ok {s : State} {h : RawHandle} {i : EntryIndex} (hn : Names s h i) : s.checkHandle h = .ok i := by
  obtain ⟨h1, h2, h3⟩ := hn
  have hlt : h.index.toNat < 64 := by have := i.2; omega
  have e : (⟨h.index.toNat, hlt⟩ : EntryIndex) = i := Fin.ext h1
  unfold State.checkHandle
  rw [dif_pos hlt]
  simp only [e]
  rw [if_neg]
  rintro (h | h)
  · exact h2 h
  · exact h h3

theorem checkHandle_error {s : State} {h : RawHandle} {r : Result} (hn : HandleRefused s h r) :
    s.checkHandle h = .error r := by
  unfold State.checkHandle
  rcases hn with ⟨h1, rfl⟩ | ⟨i, h1, h2, rfl⟩
  · rw [dif_neg (by omega)]
  · have hlt : h.index.toNat < 64 := by have := i.2; omega
    have e : (⟨h.index.toNat, hlt⟩ : EntryIndex) = i := Fin.ext h1
    rw [dif_pos hlt]
    simp only [e]
    rw [if_pos h2]

/-! ### Allocation (R6) -/

theorem lowestFree_none {s : State} (h : ∀ i : EntryIndex, s.entries[i].state ≠ .free) : s.lowestFree = none := by
  unfold State.lowestFree
  rw [List.find?_eq_none]
  intro i _
  simpa using h i

theorem lowestFree_some {s : State} {i : EntryIndex} (h : s.entries[i].state = .free)
    (hj : ∀ j : EntryIndex, j < i → s.entries[j].state ≠ .free) : s.lowestFree = some i := by
  unfold State.lowestFree
  rw [List.find?_eq_some_iff_getElem]
  refine ⟨by simpa using h, i.val, by simp, by simp, ?_⟩
  intro j hj'
  have := hj ⟨j, by omega⟩ hj'
  simpa using this

theorem lowestFree_spec {s : State} {i : EntryIndex} (h : s.lowestFree = some i) : s.entries[i].state = .free := by
  unfold State.lowestFree at h
  have := List.find?_some h
  simpa using this

/-- The unity fill of a grant (R28): every word of the pages, and no other. -/
theorem fillPages_spec {m : Memory} (pages : List Nat) (w : KnotWord) (hm : m.wf = true) :
    let m' := pages.foldl (fun m p => m.fillPage p w) m
    m'.wf = true ∧ (∀ page ∈ pages, ∀ o, o < 64 → m'.read (64 * page + o) = w) ∧
      ∀ a, a / 64 ∉ pages → m'.read a = m.read a := by
  induction pages generalizing m with
  | nil => simp [hm]
  | cons p ps ih =>
    obtain ⟨h1, h2, h3⟩ := ih (Memory.wf_fillPage (page := p) (w := w) hm)
    refine ⟨h1, ?_, ?_⟩
    · intro page hp o ho
      simp only [List.foldl_cons]
      by_cases hin : page ∈ ps
      · exact h2 page hin o ho
      · have e : page = p := by simpa [hin] using hp
        subst e
        rw [h3 _ (by rw [show (64 * page + o) / 64 = page by omega]; exact hin)]
        exact Memory.read_fillPage_same hm ho
    · intro a ha
      simp only [List.mem_cons, not_or] at ha
      simp only [List.foldl_cons]
      rw [h3 a ha.2]
      exact Memory.read_fillPage_other hm (by omega)

/-! ### Reading knots (R36, R38, R45) -/

/-- A run whose words are all good reads as its values, in order. -/
theorem readWords_ok {word : Nat → KnotWord} {js : List Nat} (h : ∀ j ∈ js, (word j).good = true) :
    readWords word js = .ok (js.map (fun j => (word j).value)) := by
  induction js with
  | nil => rfl
  | cons j js ih =>
    unfold readWords
    rw [if_pos (h j (by simp)), ih (fun k hk => h k (by simp [hk]))]
    rfl

/-- A run stops at its first faulty word. -/
theorem readWords_error {word : Nat → KnotWord} {before after : List Nat} {j : Nat}
    (hb : ∀ k ∈ before, (word k).good = true) (hj : (word j).good = false) :
    readWords word (before ++ j :: after) = .error j := by
  induction before with
  | nil => unfold readWords; simp [hj]
  | cons k ks ih =>
    simp only [List.cons_append]
    unfold readWords
    rw [if_pos (hb k (by simp)), ih (fun l hl => hb l (by simp [hl]))]

theorem readRun_ok {s : State} {i : EntryIndex} {first count : Nat} (h : AllGood s i first count) :
    s.readRun i first count = .ok (knotValues s i first count) := by
  apply readWords_ok
  intro j hj
  rw [List.mem_range'_1] at hj
  have := h (j - first) (by omega)
  rwa [show first + (j - first) = j by omega] at this

theorem readRun_error {s : State} {i : EntryIndex} {first count j : Nat} (h : FirstFault s i first count j) :
    s.readRun i first count = .error j := by
  obtain ⟨h1, h2, h3, h4⟩ := h
  have e : List.range' first count = List.range' first (j - first) ++ j :: List.range' (j + 1) (count - (j - first) - 1) := by
    have e1 : count = (j - first) + ((count - (j - first) - 1) + 1) := by omega
    conv_lhs => rw [e1]
    rw [← List.range'_append_1, List.range'_succ]
    rw [show first + (j - first) = j by omega]
  unfold State.readRun
  rw [e]
  apply readWords_error _ h3
  intro k hk
  rw [List.mem_range'_1] at hk
  exact h4 k (by omega) hk.1

/-! ### The damaged flag and the alert set (R21, R46, R176) -/

/-- A report of damage, in the words of the statements. -/
theorem reportDamage_eq (s : State) (i : EntryIndex) : s.reportDamage i = damageReported s i := by
  unfold State.reportDamage damageReported
  split <;> rename_i e <;> rw [e] <;> rfl

theorem mem_insertAlert {a b : Alert} {l : List Alert} : b ∈ insertAlert a l ↔ b = a ∨ b ∈ l := by
  induction l with
  | nil => simp [insertAlert]
  | cons c cs ih =>
    unfold insertAlert
    split
    · simp
    · split
      · next e => subst e; simp
      · simp only [List.mem_cons, ih]; tauto

theorem rank_injective {a b : Alert} (h : a.rank = b.rank) : a = b := by
  cases a <;> cases b <;> simp only [Alert.rank] at h <;> first
    | rfl
    | omega
    | (rename_i x y; congr 1; apply Fin.ext; omega)

/-- A raise keeps the set in kind order (R176). -/
theorem insertAlert_sorted {a : Alert} {l : List Alert} (h : l.Pairwise (fun x y => x.rank < y.rank)) :
    (insertAlert a l).Pairwise (fun x y => x.rank < y.rank) := by
  induction l with
  | nil => simp [insertAlert]
  | cons b bs ih =>
    rw [List.pairwise_cons] at h
    unfold insertAlert
    split
    · next hlt =>
      rw [List.pairwise_cons, List.pairwise_cons]
      refine ⟨?_, h⟩
      intro x hx
      rcases List.mem_cons.mp hx with rfl | hx
      · exact hlt
      · exact Nat.lt_trans hlt (h.1 x hx)
    · next hge =>
      split
      · rw [List.pairwise_cons]; exact h
      · next hne =>
        rw [List.pairwise_cons]
        refine ⟨?_, ih h.2⟩
        intro x hx
        rcases mem_insertAlert.mp hx with rfl | hx
        · have : x.rank ≠ b.rank := fun e => hne (rank_injective e)
          omega
        · exact h.1 x hx

/-! ### Framing of link messages (R114, R182) -/

/-- Bytes received one run after another. -/
theorem receive_append (s : State) (p : Stream) (xs ys : List Byte) :
    s.receive p (xs ++ ys) = (s.receive p xs).receive p ys := by
  unfold State.receive
  rw [List.foldl_append]

end Sys2Proof.Machine
end

