-- ==== Sys2Proof/Laws/Link.lean ====
section
/-! SUPPORT. What the shared operations of the lookup ports do, and the bytes of wider values read back. -/

namespace Sys2Proof.Machine

open Sys2Proof.Safety

/-! ### Bytes of wider values -/

theorem wordOf_bytes (w : Word) : wordOf (hiByte w) (loByte w) = w := by
  unfold wordOf hiByte loByte
  apply BitVec.eq_of_toNat_eq
  simp
  have := w.isLt
  omega

theorem wordsOf_wordBytes (ks : List Word) : wordsOf (ks.flatMap wordBytes) = ks := by
  induction ks with
  | nil => rfl
  | cons k ks ih =>
    simp only [List.flatMap_cons, wordBytes, List.cons_append, List.nil_append, wordsOf, wordOf_bytes]
    congr

theorem length_wordBytes (ks : List Word) : (ks.flatMap wordBytes).length = 2 * ks.length := by
  induction ks with
  | nil => rfl
  | cons k ks ih =>
    simp only [List.flatMap_cons, List.length_append, ih, wordBytes, List.length_cons, List.length_nil]
    omega

/-! ### Ports -/

theorem setPort_self (s : State) (p : Stream) : s.setPort p s.ports[p] = s := by
  cases s
  simp [State.setPort]

theorem setPort_setPort (s : State) (p : Stream) (x y : Port) : (s.setPort p x).setPort p y = s.setPort p y := by
  simp [State.setPort]

/-- A message that arrives at a port that listens is taken at once. -/
theorem arrive_listening {s : State} {p : Stream} (m : LinkMessage) (h : Listening s p) :
    s.arrive p m = s.takeMessage p m := by
  unfold State.arrive
  rw [h.2]
  rfl

/-- A port after a device reset. -/
theorem resetPorts_get (s : State) (c : LaneCounts) (p : Stream) :
    (s.resetPorts c)[p] = s.ports[p].afterReset (sentBy c p) := by
  simp [State.resetPorts]

/-- A lane that has sent the whole of some messages and j bytes more stands j bytes into the messages after them (R114). -/
theorem cutOff_append (xs ys : List OutMessage) (j : Nat) :
    cutOff (xs ++ ys) ((xs.flatMap OutMessage.encode).length + j) = cutOff ys j := by
  induction xs with
  | nil => simp
  | cons x xs ih =>
    simp only [List.cons_append, List.flatMap_cons, List.length_append]
    rw [cutOff, if_neg (by omega), ← ih]
    congr 1
    omega

/-! ### References and ends (R18, section 7.9) -/

theorem releaseLookupRef_frame (s : State) (i : EntryIndex) :
    s.releaseLookupRef i =
      { s with entries := (s.releaseLookupRef i).entries, freePages := (s.releaseLookupRef i).freePages } := by
  unfold State.releaseLookupRef
  split <;> rfl

/-- Releasing a selection's references writes entries and free pages, and nothing else. -/
theorem releaseRefs_frame (s : State) (sel : Selection) :
    s.releaseRefs sel = { s with entries := (s.releaseRefs sel).entries, freePages := (s.releaseRefs sel).freePages } := by
  unfold State.releaseRefs
  generalize sel.sources = l
  induction l generalizing s with
  | nil => rfl
  | cons a as ih =>
    simp only [List.foldl_cons]
    have h1 := ih (s.releaseLookupRef a)
    have h2 := releaseLookupRef_frame s a
    generalize (as.foldl State.releaseLookupRef (s.releaseLookupRef a)) = x at *
    rw [h1, h2]

/-- The end of a head, as the statements say it. -/
theorem endHead_eq {s : State} {p : Stream} {h : Lookup} {rest : List Lookup} (ms : List OutMessage)
    (hq : s.ports[p].queue = h :: rest) : s.endHead p ms = headEnded s p h rest ms := by
  have hf := releaseRefs_frame s h.selection
  have hports : (s.releaseRefs h.selection).ports = s.ports := by rw [hf]
  unfold State.endHead headEnded
  rw [hq]
  cases rest with
  | nil => simp [State.modPort, State.setPort, withPort, hports]
  | cons w ws =>
    simp [State.modPort, State.setPort, withPort, hports, State.send, Port.judgeTimer, timerForHead,
      State.headerOf]
    split <;> rfl

/-- The end of a waiting lookup, as the statements say it. -/
theorem endWaiting_eq {s : State} {p : Stream} {h w : Lookup} (ms : List OutMessage)
    (hq : s.ports[p].queue = [h, w]) : s.endWaiting p ms = waitingEnded s p h w ms := by
  have hf := releaseRefs_frame s w.selection
  have hports : (s.releaseRefs w.selection).ports = s.ports := by rw [hf]
  unfold State.endWaiting waitingEnded
  rw [hq]
  simp [State.modPort, State.setPort, withPort, hports]

/-! ### Allocation (R6, R27, R28) -/

/-- A granted allocation, from the lowest FREE entry and the pages at the head of the free list. -/
theorem allocate_ok {s : State} {i : EntryIndex} {pr : Profile} (hi : s.lowestFree = some i)
    (hp : pr.geometry.pageCount ≤ s.freePages.length) :
    s.allocate pr = .ok (i, ((s.takePages pr.geometry.pageCount).fillPages
      (s.freePages.take pr.geometry.pageCount) pr.format).setEntry i
        (s.entries[i].allocated pr (s.freePages.take pr.geometry.pageCount))) := by
  unfold State.allocate
  rw [hi]
  exact if_pos hp

theorem allocate_tableFull {s : State} {pr : Profile} (h : s.lowestFree = none) :
    s.allocate pr = .error .tableFull := by
  unfold State.allocate
  rw [h]

theorem allocate_noSpace {s : State} {i : EntryIndex} {pr : Profile} (hi : s.lowestFree = some i)
    (hp : s.freePages.length < pr.geometry.pageCount) : s.allocate pr = .error .noSpace := by
  unfold State.allocate
  rw [hi]
  exact if_neg (by omega)

end Sys2Proof.Machine
end

