-- ==== Sys2Proof/Tests/Slice0.lean ====
section
/-! SUPPORT. Tests: the spec's worked numbers, well-formedness, and states that meet the hypotheses of the statements. -/

namespace Sys2Proof.Tests

open Sys2Proof.Machine Sys2Proof.Safety

set_option Elab.async false

/-! ### Small states -/

/-- The smallest grid: 4 x 3 x 1, 12 knots, one page. -/
def grid : Geometry := { columns := 4, rows := 3, channels := 1 }

/-- A profile of the smallest grid. -/
def profile : Profile := { origin := .host, geometry := grid, format := .uq1_11, label := 7 }

/-- An allocated entry in a state, holding one page, with a revision. -/
def entry (st : EntryState) (page : Nat) (check : Option Word) (members : StreamMask) (pend look : Nat) : Entry :=
  { revision := 3, state := st, profile := some profile, pages := [page], checkValue := check, damaged := false,
    membership := members, pendingRefs := pend, lookupRefs := look }

/-- The CRC-16 of twelve unity knots of UQ1.11. -/
def unityCrc : Word := crc16 (List.replicate 12 2048)

/-- A page of unity knots at page 1 to 4, and of zeros elsewhere. -/
def pages : Memory :=
  [1, 2, 3, 4].foldl (fun (m : Memory) p => m.fillPage p (KnotWord.ofValue 2048)) []

/-- An idle part: entry 1 LOADING, 2 STAGED, 3 LIVE in view 0, 4 DRAINING, 5 STAGED and held by an edit; view 0 with entry
3 at key 256, view 1 empty; list 1 with one edit, UNARMED, list 2 ARMED; ports ACTIVE and listening. -/
def lab : State :=
  { State.reset with
      entries := (((((Vector.replicate 64 (Entry.freed 0)).set 1 (entry .loading 1 none 0 0 0)).set 2
        (entry .staged 2 (some unityCrc) 0 0 0)).set 3 (entry .live 3 (some unityCrc) 1 0 0)).set 4
        (entry .draining 4 (some unityCrc) 0 0 1)).set 5 (entry .staged 2 (some unityCrc) 0 2 0)
      memory := pages
      freePages := [0, 5, 6]
      views := #v[{ config := some ⟨grid, .uq1_11⟩, anchors := [⟨⟨3, 3⟩, 256, 16⟩], generation := 9 },
                  { config := some ⟨grid, .uq1_11⟩, anchors := [], generation := 65535 },
                  { config := some ⟨grid, .uq1_11⟩, anchors := [], generation := 0 }, View.reset]
      lists := #v[EditList.reset, { edits := [.attach ⟨5, 3⟩ 256 16], target := none },
                  { edits := [.attach ⟨5, 3⟩ 512 0], target := some 1 }, EditList.reset]
      ports := Vector.replicate 4 { Port.reset with active := true, framing := .waiting }
      engine := .idle }

/-- The lab with one entry replaced. -/
def labEntry (i : EntryIndex) (e : Entry) : State := { lab with entries := lab.entries.set i e }

/-- A lookup record with no reference. -/
def item (tag : Byte) (owed : List Nat) (granted : Option Nat) : Lookup :=
  { tag := tag, selection := .fallback, geometry := grid, format := .uq1_11, generation := 0, counter := 0,
    rowsOwed := owed, granted := granted, cancelling := false, resetting := false, rowsSent := 0 }

/-- The lab with a queue on port 0. -/
def labQueue (q : List Lookup) (credits : Nat) : State :=
  { lab with ports := lab.ports.set 0 { lab.ports[0] with queue := q, credits := credits } }

/-- A queue's head with a granted row. -/
def producing (l : Lookup) (rest : List Lookup) (credits : Nat) : State :=
  { labQueue ({ l with granted := some 0 } :: rest) credits with
      datapath := some { port := 0, tag := l.tag, row := 0 } }

/-- Handle bytes of entry i at revision 3. -/
def raw (i : Byte) : RawHandle := { index := i, revision := 3 }

/-- The fields of a slot that holds the grid of section 9.7. -/
def slotFields : SlotFields :=
  { columns := 4, rows := 3, channels := 1, format := 0, key := 320, plateau := 24, label := 7, bases := [2048],
    deltas := [52, 32, 32, 52, 12, 0, 0, 12, 52, 32, 32, 52], crc := crc16 (decompress 1 12 [2048]
      [52, 32, 32, 52, 12, 0, 0, 12, 52, 32, 32, 52]) }

/-- The knots of section 9.7. -/
def sectionKnots : List Knot := [2100, 2080, 2080, 2100, 2060, 2048, 2048, 2060, 2100, 2080, 2080, 2100]

/-- The lab with slot 1 PROGRAMMED with those fields, slot 2 PROGRAMMED with a wrong CRC, slot 3 SPOILED. -/
def labSlots : State :=
  { lab with slots := #v[Slot.blank, { state := .programmed, fields := some slotFields },
      { state := .programmed, fields := some { slotFields with crc := 0 } }, { state := .spoiled, fields := none }] }

theorem no_grid {c r ch : Byte} (h : geometryOf c r ch = none) : ¬ ∃ g, GridBytes c r ch g := by
  rintro ⟨g, hg⟩
  rw [geometryOf_some hg] at h
  cases h

theorem no_format {b : Byte} (h : formatOf b = none) : ¬ ∃ f, FormatByte b f := by
  rintro ⟨f, hf⟩
  rw [formatOf_some hf] at h
  cases h

/-! ### The spec's worked numbers -/

theorem test_r53_edges :
    (⟨⟨0, 0⟩, 256, 16⟩ : Anchor).lower = 240 ∧ (⟨⟨0, 0⟩, 256, 16⟩ : Anchor).upper = 272 ∧
    (⟨⟨0, 0⟩, 10, 20⟩ : Anchor).lower = 0 ∧ (⟨⟨0, 0⟩, 10, 20⟩ : Anchor).upper = 30 ∧
    (⟨⟨0, 0⟩, 65280, 1000⟩ : Anchor).lower = 64280 ∧ (⟨⟨0, 0⟩, 65280, 1000⟩ : Anchor).upper = 65535 := by
  decide +kernel

/-- The view of section 6.5. -/
def threeAnchors : List Anchor := [⟨⟨2, 4⟩, 256, 16⟩, ⟨⟨8, 1⟩, 384, 16⟩, ⟨⟨13, 2⟩, 512, 32⟩]

theorem test_section_6_5_selections :
    [100, 270, 272, 273, 320, 367, 368, 401, 479, 600].map (fun k => lab.selectionOf (choose threeAnchors k)) =
      [.pure ⟨2, 4⟩, .pure ⟨2, 4⟩, .pure ⟨2, 4⟩, .blend ⟨2, 4⟩ ⟨8, 1⟩ 2, .blend ⟨2, 4⟩ ⟨8, 1⟩ 128,
       .blend ⟨2, 4⟩ ⟨8, 1⟩ 253, .pure ⟨8, 1⟩, .blend ⟨8, 1⟩ ⟨13, 2⟩ 3, .blend ⟨8, 1⟩ ⟨13, 2⟩ 252,
       .pure ⟨13, 2⟩] := by decide +kernel

theorem test_section_6_6_blends :
    [blendKnot 128 1180 1312, blendKnot 128 1024 1024, blendKnot 128 4095 0, blendKnot 3 1312 1500, blendKnot 3 0 4095,
     blendKnot 255 0 4095, blendKnot 1 4095 4095] = [1246, 1024, 2048, 1314, 48, 4079, 4095] := by decide +kernel

theorem test_section_6_7_damage :
    let s := labEntry 13 { Entry.freed 2 with damaged := true }
    [320, 384, 401, 479, 512, 600].map (fun k => s.selectionOf (choose threeAnchors k)) =
      [.blend ⟨2, 4⟩ ⟨8, 1⟩ 128, .pure ⟨8, 1⟩, .degraded ⟨8, 1⟩, .degraded ⟨8, 1⟩, .fallback, .fallback] := by
  decide +kernel

theorem test_section_9_7_compression :
    basesOf 1 sectionKnots = [2048] ∧ deltasOf 1 [2048] sectionKnots = slotFields.deltas ∧
      decompress 1 12 [2048] slotFields.deltas = sectionKnots ∧ channelSpan 1 0 sectionKnots = 52 ∧
      channelSpan 1 0 (sectionKnots.set 5 2400) = 352 := by decide +kernel

theorem test_r94_table :
    ([(1, 0), (3, 0), (3, 1), (3, 2)].map (fun c =>
      let s := lab.setPoint 0 { lab.points[0] with prescale := c.1, edgeCount := c.2 }
      ((s.countEdge 0).points[0].edgeCount, (s.countEdge 0).points[0].counter))) =
      [(0, 1), (1, 0), (2, 0), (0, 1)] := by decide +kernel

theorem test_r137_table :
    let cand := fun (last : Stream) (ps : List Stream) => (grantOrder last).find? (fun p => ps.contains p)
    cand 3 [0, 2] = some 0 ∧ cand 0 [0, 2] = some 2 ∧ cand 2 [0, 2, 3] = some 3 ∧ cand 3 [2] = some 2 ∧
      cand 2 [2] = some 2 := by decide +kernel

/-! ### Bytes that arrive, written out from chapter 11 -/

theorem test_create_bytes :
    judgeRequest [0x10, 0x21, 0x06, 16, 12, 4, 1, 0x00, 0x07] = .taken 0x21 (.create 16 12 4 1 7) := by decide +kernel

theorem test_write_knots_bytes :
    judgeRequest [0x14, 0x01, 0x09, 6, 2, 0x00, 0x0A, 2, 0x08, 0x00, 0x0F, 0xFF] =
      .taken 1 (.writeKnots ⟨6, 2⟩ 10 2 [0x800, 0xFFF]) := by decide +kernel

theorem test_commit_bytes : judgeRequest [0x25, 0x07, 0x04, 0x02, 0x01, 0x00, 0x58] = .taken 7 (.commit 2 1 88) := by
  decide +kernel

theorem test_program_bytes :
    judgeRequest [0x50, 0x07, 0x07, 1, 6, 2, 0x01, 0x40, 0x00, 0x18] = .taken 7 (.programBaseline 1 ⟨6, 2⟩ 320 24) := by
  decide +kernel

theorem test_lookup_bytes :
    parseMessage [0x11, 5, 0x01, 0x40, 0, 0, crc8 [0x11, 5, 0x01, 0x40, 0, 0]] = some (.lookup 5 320 0 0) := by
  decide +kernel

theorem test_set_port_bytes : judgeRequest [0x40, 9, 3, 2, 0, 40] = .taken 9 (.setPort 2 0 40) := by decide +kernel

/-! ### Ill-formed terms that well-formedness refuses -/

theorem test_ill_formed_write_knots : (Instr.writeKnots 0 (raw 1) 0 2 [1]).wellFormed = false := by decide
theorem test_ill_formed_long_write_knots :
    (Instr.writeKnots 0 (raw 1) 0 30 (List.replicate 30 0)).wellFormed = false := by decide +kernel
theorem test_ill_formed_unknown_request : (Instr.unknownRequest [0x10, 0, 0]).wellFormed = false := by decide +kernel
theorem test_ill_formed_format_error : (Instr.requestFormatError [0x13, 0, 0]).wellFormed = false := by decide +kernel
theorem test_ill_formed_empty_format_error : (Instr.requestFormatError []).wellFormed = false := by decide
theorem test_ill_formed_busy_nack : (Instr.busyNack []).wellFormed = false := by decide
theorem test_ill_formed_window_select : (Instr.windowSelect 0x01 [0x10]).wellFormed = false := by decide
theorem test_ill_formed_lookup : (Instr.lookup 0 16 0 0 0).wellFormed = false := by decide
theorem test_ill_formed_credit : (Instr.credit 0 0).wellFormed = false ∧ (Instr.credit 0 5).wellFormed = false := by
  decide
theorem test_ill_formed_cancel : (Instr.cancel 0 16).wellFormed = false := by decide
theorem test_ill_formed_held : (Instr.linkMessageHeld 0 (.credit 5)).wellFormed = false := by decide
theorem test_ill_formed_bad_message :
    (Instr.badMessage 0 []).wellFormed = false ∧ (Instr.badMessage 0 [0]).wellFormed = false ∧
      (Instr.badMessage 0 (LinkMessage.credit 1).encode).wellFormed = false := by decide +kernel
theorem test_ill_formed_restore : (Instr.restoreComplete [⟨768, ⟨0, true⟩⟩]).wellFormed = false := by decide
theorem test_ill_formed_slot_load : (Instr.slotLoad 0 [⟨768, ⟨0, true⟩⟩]).wellFormed = false := by decide

/-! ### States that meet the hypotheses of the statements, clause by clause -/

/-- An idle part with entry 0 STAGED, one edit on stream 0's list, ARMED for the next point, and a command waiting. -/
def armedPart : State :=
  { State.reset with
      entries := (Vector.replicate 64 (Entry.freed 0)).set 0 (entry .staged 0 (some unityCrc) 0 1 0)
      freePages := List.range' 1 511
      views := #v[{ config := some ⟨grid, .uq1_11⟩, anchors := [], generation := 0 }, View.reset, View.reset, View.reset]
      lists := #v[{ edits := [.attach ⟨0, 3⟩ 256 16], target := some 1 }, EditList.reset, EditList.reset, EditList.reset]
      ports := Vector.replicate 4 { Port.reset with active := true, framing := .waiting }
      engine := .idle
      pending := [.point 9 1] }

theorem entry_armed : EntryOk (entry .staged 0 (some unityCrc) 0 1 0) :=
  ⟨⟨profile, rfl, by decide, rfl⟩, rfl, rfl⟩

theorem armedPart_entries (i : EntryIndex) :
    armedPart.entries[i] = if i = 0 then entry .staged 0 (some unityCrc) 0 1 0 else Entry.freed 0 := by
  revert i
  decide +kernel

theorem armedPart_queues (p : Stream) : armedPart.ports[p].queue = [] := by
  revert p
  decide +kernel

theorem armedPart_store : StoreLaw armedPart := by
  refine ⟨⟨by decide +kernel, by decide +kernel⟩, ?_, by decide +kernel⟩
  decide +kernel

theorem armedPart_alerts : AlertLaw armedPart := by unfold AlertLaw; decide +kernel

theorem armedPart_armed : ArmedLaw armedPart := by
  intro n
  refine ⟨⟨?_, ?_⟩, ?_⟩
  · revert n; decide +kernel
  · intro T hT
    fin_cases n
    · have e : T = 1 := by
        have h : armedPart.lists[(0 : Stream)].target = some (1 : Word) := by decide +kernel
        exact (Option.some.inj (h.symm.trans hT)).symm
      subst e
      decide +kernel
    all_goals exact absurd hT (by intro h; cases h)
  · unfold PointRecordOk; revert n; decide +kernel

theorem armedPart_serving : ServingLaw armedPart := by
  refine ⟨?_, ?_, ?_⟩
  · intro p
    have e : armedPart.ports[p] = { Port.reset with active := true, framing := .waiting } := by
      revert p; decide +kernel
    rw [e]
    refine ⟨?_, by decide +kernel⟩
    unfold PortOk TimerOk
    simp [Port.reset]
  · intro p l hl
    rw [armedPart_queues p] at hl
    cases hl
  · intro d hd
    cases hd

theorem armedPart_record : RecordLaw armedPart := by
  refine ⟨?_, ?_, ?_, ?_, ?_, ?_, ?_⟩
  · intro i
    rw [armedPart_entries i]
    split
    · exact entry_armed
    · exact rfl
  · unfold ReferenceLaw; decide +kernel
  · unfold MembershipLaw HandleCurrent; decide +kernel
  · intro n
    fin_cases n
    · show GeometryOk grid ∧ _
      decide +kernel
    all_goals exact ⟨rfl, rfl⟩
  · unfold HandleCurrent; decide +kernel
  · trivial
  · intro p l hl
    rw [armedPart_queues p] at hl
    cases hl

/-- StepKeepsPagesAndAlerts, StepKeepsArmedTargetsAhead, StepKeepsServingLaw, StepKeepsRecordLaw. -/
theorem test_laws_met_before_a_step :
    StoreLaw armedPart ∧ AlertLaw armedPart ∧ ArmedLaw armedPart ∧ ServingLaw armedPart ∧ RecordLaw armedPart ∧
      ∃ t, step armedPart = .next t :=
  ⟨armedPart_store, armedPart_alerts, armedPart_armed, armedPart_serving, armedPart_record, _, rfl⟩

/-- StepKeepsServingLaw: a byte that arrives, rows that bring bytes, a row that brings none, and a step on an empty queue. -/
theorem test_serving_met :
    ServingLaw armedPart ∧ laneBytesOf (.cancel 3 15) = some (3, (LinkMessage.cancel 15).encode) ∧
      laneBytesOf (.idleByte 0) = some (0, [0]) ∧ laneBytesOf .handover = none ∧
      (∀ moment straps, Instr.handover ≠ .deviceReset moment straps) ∧ (∃ t, exec .handover armedPart = .next t) ∧
      ServingLaw { armedPart with pending := [] } ∧ ∃ t, step { armedPart with pending := [] } = .next t :=
  ⟨armedPart_serving, rfl, rfl, rfl, nofun, ⟨_, rfl⟩, armedPart_serving, _, rfl⟩

/-- RecordsChangeOnlyAtTheirEvents: a step that applies, with an entry other than a reset's. -/
theorem test_record_events_met :
    ArmedLaw armedPart ∧ RecordLaw armedPart ∧ armedPart.lists[(0 : Stream)].target = some 1 ∧
      (∃ t, step armedPart = .next t) ∧ (∀ m st, armedPart.pending.head? ≠ some (.deviceReset m st)) :=
  ⟨armedPart_armed, armedPart_record, by decide +kernel, ⟨_, rfl⟩, nofun⟩

/-- RecordsChangeOnlyAtTheirEvents: every row that brings a WITHDRAW, and rows that look like one and bring none. -/
theorem test_withdraw_rows :
    (∀ c ∈ ([.withdraw 5 9, .windowSelect 0x01 [0x26, 5, 1, 9], .busyNack [0x26, 5, 1, 9],
        .unknownRequest [0x26, 5, 1, 9], .requestFormatError [0x26, 5, 1, 9],
        .groupWrite 0x58 .ready [0x01, 0x26, 5, 1, 9]] : List Instr), BringsWithdraw c 3) ∧
    judgeRequest [0x26, 5, 1, 9] = .taken 5 (.withdraw 9) ∧ judgeRequest [0x26, 5, 2, 9, 0] = .format 0x26 5 := by
  refine ⟨?_, by decide +kernel, by decide +kernel⟩
  intro c hc
  refine ⟨5, 9, 9, rfl, rfl, ?_⟩
  simp only [List.mem_cons, List.not_mem_nil, or_false] at hc
  rcases hc with h | h | h | h | h | h
  · exact Or.inl h
  all_goals refine Or.inr ⟨[0x26, 5, 1, 9], by decide +kernel, ?_⟩
  · exact Or.inl h
  · exact Or.inr (Or.inl h)
  · exact Or.inr (Or.inr (Or.inl h))
  · exact Or.inr (Or.inr (Or.inr (Or.inl h)))
  · exact Or.inr (Or.inr (Or.inr (Or.inr ⟨_, _, h⟩)))

/-! Reset -/

/-- The lab with two messages made on port 0's lane. -/
def labTalking : State :=
  { lab with ports := lab.ports.set 0 { lab.ports[0] with out := [.notice .ready, .ended 5 .range] } }

/-- ResetLeavesStatedValues: a lane that stands inside its second message, and one that has sent everything. -/
theorem test_reset_met :
    labTalking.ports[(0 : Stream)].out = [OutMessage.notice .ready] ++ OutMessage.ended 5 .range :: [] ∧
    sentBy ⟨6, 8, 0, 0⟩ 0 = ([OutMessage.notice .ready].flatMap OutMessage.encode).length + 2 ∧
    2 < (OutMessage.ended 5 .range).encode.length ∧
    (labTalking.ports[(0 : Stream)].out.flatMap OutMessage.encode).length ≤ sentBy ⟨8, 0, 0, 0⟩ 0 ∧
    State.reset.slots[(0 : Stream)].reading = .blank ∧
    (let s := { lab with slots := #v[{ state := .programmed, fields := some slotFields }, Slot.blank, Slot.blank, Slot.blank] }
     s.slots[(0 : Stream)].reading = .programmed slotFields grid .uq1_11) ∧
    (let s := { lab with slots := #v[{ state := .spoiled, fields := none }, Slot.blank, Slot.blank, Slot.blank] }
     s.slots[(0 : Stream)].reading = .spoiled .spoiled) := by decide +kernel

/-- R28, R164: after a device reset slot 0's page holds unity and the next page nothing, and the part answers its strapped
address. -/
theorem test_reset_fills :
    ∃ t, exec (.deviceReset ⟨⟨.low, .low, .low, .low⟩, ⟨0, 0, 0, 0⟩⟩ 3)
        { lab with slots := #v[{ state := .programmed, fields := some slotFields }, Slot.blank, Slot.blank, Slot.blank] } =
        .next t ∧
      t.memory.read 0 = KnotWord.ofValue 2048 ∧ t.memory.read 63 = KnotWord.ofValue 2048 ∧
      t.memory.read 64 = Memory.unlisted ∧ t.acksAddress 0x2F true = true ∧ t.acksAddress 0x2C true = false ∧
      t.acksAddress 0x58 false = false :=
  ⟨_, rfl, by decide +kernel⟩

/-- R114: a device reset leaves the part of a message that the lane had sent, and the lane ends it with an idle byte. -/
theorem test_reset_cuts_off :
    (cutOff labTalking.ports[(0 : Stream)].out 6 = [0x83, 5]) ∧
    (labTalking.ports[(0 : Stream)].afterReset 6).laneBytes = [0x83, 5, 0] ∧
    (labTalking.ports[(0 : Stream)].afterReset 4).laneBytes = [] := by decide +kernel

/-- R114: messages leave whole, each with its check byte, an idle byte after each. -/
theorem test_lane_bytes :
    labTalking.ports[(0 : Stream)].laneBytes =
      [0x84, 1, 0xFF, crc8 [0x84, 1, 0xFF], 0, 0x83, 5, 7, crc8 [0x83, 5, 7], 0] := by decide +kernel

/-- NoWriteReachesCheckedKnots. -/
theorem test_checked_knots_met :
    StoreLaw armedPart ∧ RecordLaw armedPart ∧ (∃ t, step armedPart = .next t) ∧
      armedPart.entries[(0 : EntryIndex)].state = .staged ∧
      (∀ page offset u, armedPart.pending.head? ≠ some (.parityFault page offset u)) ∧
      (∀ l st, armedPart.pending.head? ≠ some (.deviceReset l st)) ∧ armedPart.knotAddress 0 11 = some 11 :=
  ⟨armedPart_store, armedPart_record, ⟨_, rfl⟩, by decide +kernel, nofun, nofun, by decide +kernel⟩

/-- SlotStatesFollowTheirTable: its states and its ranges, each side of each bound. -/
theorem test_slot_table_met :
    (RecordLaw armedPart ∧ ∃ t, step armedPart = .next t) ∧
    (armedPart.pending.head? ≠ some .scanEnd ∧ (∀ r, armedPart.pending.head? ≠ some (.programWriteEnd r)) ∧
      ∀ w r, armedPart.pending.head? ≠ some (.programVerifyEnd w r)) ∧
    (Slot.state ⟨.programming, none⟩ = .programming ∧ Slot.state ⟨.spoiled, none⟩ = .spoiled) ∧
    (¬ ∃ g, GridBytes 3 3 1 g) ∧ (¬ ∃ g, GridBytes 17 3 1 g) ∧ (¬ ∃ g, GridBytes 4 2 1 g) ∧ (¬ ∃ g, GridBytes 4 13 1 g) ∧
    (¬ ∃ g, GridBytes 4 3 2 g) ∧ (¬ ∃ f, FormatByte 3 f) :=
  ⟨⟨armedPart_record, _, rfl⟩, ⟨by decide, nofun, nofun⟩, ⟨rfl, rfl⟩,
    no_grid (by decide), no_grid (by decide), no_grid (by decide), no_grid (by decide), no_grid (by decide),
    no_format (by decide)⟩

/-- A part whose port 0's timer is about to run out and whose port 1's has. -/
def twoTimers : State :=
  { State.reset with
      ports := #v[{ Port.reset with timer := .running 499999 20 }, { Port.reset with timer := .running 25000 1 },
                  Port.reset, Port.reset] }

/-- IdleStepIsOneRefclkPeriod: no timer due; and a lower port's timer running while a higher one is due. -/
theorem test_idle_step_met :
    (∀ (p : Stream) (e l : Nat), State.reset.ports[p].timer = .running e l → e < l * 25000) ∧
      twoTimers.pending = [] ∧ twoTimers.ports[(1 : Stream)].timer = .running 25000 1 ∧ 1 * 25000 ≤ 25000 ∧
      ∀ (q : Stream) (e l : Nat), q < 1 → twoTimers.ports[q].timer = .running e l → e < l * 25000 := by
  have stopped : ∀ p : Stream, State.reset.ports[p].timer = .stopped := by decide +kernel
  refine ⟨?_, by decide +kernel, by decide +kernel, by decide, ?_⟩
  · intro p e l h
    rw [stopped p] at h
    cases h
  · intro q e l hq h
    have h0 : q = 0 := by clear h; revert q; decide
    subst h0
    have e1 : Timer.running 499999 20 = .running e l := h
    cases e1
    decide

/-! Profiles -/

/-- CreateAllocatesOrRefuses: the smallest and the largest grid, a grid that just fits the free pages and one that just
does not, each format, each side of each range, and no FREE entry. -/
theorem test_create_met :
    lab.engine = .idle ∧ lab.memory.wf = true ∧ GridBytes 4 3 1 grid ∧ GridBytes 16 12 4 ⟨16, 12, 4⟩ ∧
    GridBytes 16 12 1 ⟨16, 12, 1⟩ ∧ FormatByte 0 .uq1_11 ∧ FormatByte 1 .uq2_10 ∧ FormatByte 2 .uq3_9 ∧
    lab.entries[(0 : EntryIndex)].state = .free ∧ (∀ j : EntryIndex, j < 0 → lab.entries[j].state ≠ .free) ∧
    (16 * 12 * 1 + 63) / 64 ≤ lab.freePages.length ∧ lab.freePages.length < (16 * 4 * 4 + 63) / 64 ∧
    GridBytes 16 4 4 ⟨16, 4, 4⟩ ∧
    (¬ ∃ g, GridBytes 17 3 1 g) ∧ (¬ ∃ g, GridBytes 4 3 0 g) ∧ (¬ ∃ f, FormatByte 3 f) ∧
    (let full := { lab with entries := Vector.replicate 64 (entry .loading 1 none 0 0 0) }
     ∀ i : EntryIndex, full.entries[i].state ≠ .free) :=
  ⟨rfl, by decide +kernel, by decide, by decide, by decide, by decide, by decide, by decide, by decide +kernel,
    by decide +kernel, by decide +kernel, by decide +kernel, by decide, no_grid (by decide), no_grid (by decide),
    no_format (by decide), by decide +kernel⟩

/-- The handle check of R5, for every statement that has it as a premise: RANGE from index 64, STALE for a FREE entry and
for another revision. -/
theorem test_handle_refused_met :
    HandleRefused lab ⟨64, 0⟩ .range ∧ HandleRefused lab ⟨255, 3⟩ .range ∧ HandleRefused lab ⟨63, 0⟩ .stale ∧
      HandleRefused lab ⟨1, 2⟩ .stale :=
  ⟨Or.inl ⟨by decide, rfl⟩, Or.inl ⟨by decide, rfl⟩, Or.inr ⟨63, by decide, Or.inl (by decide +kernel), rfl⟩,
    Or.inr ⟨1, by decide, Or.inr (by decide +kernel), rfl⟩⟩

/-- HandleCheckRefuses and WriteKnotsStoresOrRefuses: the greatest knot that is written, and the least that is refused. -/
theorem test_knot_values_met :
    (∀ k ∈ ([4095] : List Word), k.toNat < 4096) ∧ ∃ k ∈ ([4096] : List Word), 4096 ≤ k.toNat :=
  ⟨by simp, 4096, by simp, by decide⟩

/-- HandleCheckRefuses: the premises of the requests that check more before the handle. -/
theorem test_handle_check_met :
    lab.engine = .idle ∧
    ([4095] : List Word).length = (1 : Byte).toNat ∧
    StreamByte 1 1 ∧ lab.views[(1 : Stream)].config = some ⟨grid, .uq1_11⟩ ∧ lab.lists[(1 : Stream)].target = none ∧
    lab.lists[(1 : Stream)].edits.length < 8 ∧ lab.slots[(1 : Stream)].reading = .blank := by decide +kernel

/-- DeleteFollowsStateTable: each row. -/
theorem test_delete_met :
    Names lab (raw 1) 1 ∧ lab.entries[(1 : EntryIndex)].state = .loading ∧
    Names lab (raw 2) 2 ∧ lab.entries[(2 : EntryIndex)].state = .staged ∧ lab.entries[(2 : EntryIndex)].pendingRefs = 0 ∧
    lab.entries[(2 : EntryIndex)].lookupRefs = 0 ∧
    Names lab (raw 3) 3 ∧ lab.entries[(3 : EntryIndex)].state = .live ∧
    Names lab (raw 4) 4 ∧ lab.entries[(4 : EntryIndex)].state = .draining ∧
    Names lab (raw 5) 5 ∧ 0 < lab.entries[(5 : EntryIndex)].pendingRefs ∧
    (let s := labEntry 2 (entry .staged 2 (some unityCrc) 0 0 1)
     Names s (raw 2) 2 ∧ s.entries[(2 : EntryIndex)].pendingRefs = 0 ∧ 0 < s.entries[(2 : EntryIndex)].lookupRefs) := by
  decide +kernel

/-- ProfileAndStoreQueriesReport. -/
theorem test_profile_query_met :
    lab.engine = .idle ∧ Names lab (raw 2) 2 ∧ lab.entries[(2 : EntryIndex)].profile = some profile ∧
    lab.entries[(63 : EntryIndex)].state = .free ∧ lab.entries[(1 : EntryIndex)].revision ≠ 2 ∧
    64 ≤ (64 : Byte).toNat := by decide +kernel

/-! Knots -/

/-- WriteKnotsStoresOrRefuses: the whole run of 12 knots, the last knot alone, and each refusal at its bound. -/
theorem test_write_knots_met :
    Names lab (raw 1) 1 ∧ lab.entries[(1 : EntryIndex)].state = .loading ∧ lab.entries[(1 : EntryIndex)].pages.Nodup ∧
    lab.entries[(1 : EntryIndex)].knotCount ≤ 64 * lab.entries[(1 : EntryIndex)].pages.length ∧
    (0 : Word).toNat + (12 : Byte).toNat ≤ lab.entries[(1 : EntryIndex)].knotCount ∧
    (11 : Word).toNat + (1 : Byte).toNat ≤ lab.entries[(1 : EntryIndex)].knotCount ∧
    lab.entries[(1 : EntryIndex)].knotCount < (12 : Word).toNat + (1 : Byte).toNat ∧
    ([1, 2] : List Word).length ≠ (1 : Byte).toNat ∧ 29 < (List.replicate 30 (0 : Word)).length ∧
    ([] : List Word).length = (0 : Byte).toNat ∧
    (List.replicate 25 (0 : Word)).length = (25 : Byte).toNat ∧ lab.entries[(2 : EntryIndex)].state ≠ .loading ∧
    Names lab (raw 2) 2 := by decide +kernel

/-- R166: a WRITE_KNOTS of 29 knots is acknowledged whole, and the 69th byte of one of 30 is NACKed. -/
theorem test_write_knots_acks :
    requestAcks (encodeRequest 5 (.writeKnots (raw 1) 0 29 (List.replicate 29 0))) = List.replicate 67 true ∧
    requestAcks (encodeRequest 5 (.writeKnots (raw 1) 0 30 (List.replicate 30 0))) = List.replicate 68 true ++ [false] := by
  decide +kernel

/-- Entry 1's knot 3 faulty. -/
def labFault (page : Fin 512) : State :=
  { lab with memory := lab.memory.write (64 * page.val + 3) { value := 0, parity := !Config.parityOf 0 } }

/-- ReadKnotsReadsOrReportsFault: a good run and a faulty one, at both ends, and a run past the last knot. -/
theorem test_read_knots_met :
    AllGood lab 1 0 12 ∧ AllGood lab 1 11 1 ∧ FirstFault (labFault 1) 1 0 12 3 ∧ FirstFault (labFault 1) 1 3 1 3 ∧
    Names lab (raw 1) 1 ∧ lab.entries[(1 : EntryIndex)].knotCount < (12 : Word).toNat + (1 : Byte).toNat := by decide +kernel

/-- FinishChecksAndStages: the request on a LOADING entry and off one; an equal check, a mismatch, a fault. -/
theorem test_finish_met :
    Names lab (raw 1) 1 ∧ lab.entries[(1 : EntryIndex)].state = .loading ∧ Names lab (raw 2) 2 ∧
    ({ lab with engine := .busy 5 (.finish 1 unityCrc) } : State).engine = .busy 5 (.finish 1 unityCrc) ∧
    AllGood lab 1 0 lab.entries[(1 : EntryIndex)].knotCount ∧
    crc16 (knotValues lab 1 0 lab.entries[(1 : EntryIndex)].knotCount) = unityCrc ∧ unityCrc ≠ 0 ∧
    FirstFault (labFault 1) 1 0 (labFault 1).entries[(1 : EntryIndex)].knotCount 3 := by decide +kernel

/-- VerifyChecksAndMarksDamage: the request on a STAGED, a LIVE and a DRAINING entry; an equal check, a mismatch, a
fault. -/
theorem test_verify_met :
    Names lab (raw 2) 2 ∧ Names lab (raw 3) 3 ∧ Names lab (raw 4) 4 ∧ lab.entries[(4 : EntryIndex)].state ≠ .staged ∧
    lab.entries[(4 : EntryIndex)].state ≠ .live ∧
    lab.entries[(2 : EntryIndex)].checkValue = some unityCrc ∧ AllGood lab 2 0 lab.entries[(2 : EntryIndex)].knotCount ∧
    crc16 (knotValues lab 2 0 lab.entries[(2 : EntryIndex)].knotCount) = unityCrc ∧
    (labEntry 2 (entry .staged 2 (some 0) 0 0 0)).entries[(2 : EntryIndex)].checkValue = some 0 ∧ unityCrc ≠ 0 ∧
    FirstFault (labFault 2) 2 0 (labFault 2).entries[(2 : EntryIndex)].knotCount 3 := by decide +kernel

/-- ParityFaultAltersOneWord: a good word and one that already holds a fault. -/
theorem test_parity_fault_met :
    lab.memory.wf = true ∧ (labFault 1).memory.wf = true ∧ (lab.memory.read (64 * 1 + 3)).good = true ∧
      ((labFault 1).memory.read (64 * 1 + 3)).good = false := by decide +kernel

/-- ChecksAndLengthsOfMessages: a lane that has made nothing since a reset, with and without a message cut off. -/
theorem test_cut_met :
    (Port.reset.out = [] ∧ Port.reset.cut = []) ∧
      ({ Port.reset with cut := [0x84] } : Port).out = [] ∧ ({ Port.reset with cut := [0x84] } : Port).cut ≠ [] := by decide

/-! Views, edits and commits -/

/-- ConfigureViewSetsEmptyView: a view with anchors, one with edits, and an UNCONFIGURED one that is empty. -/
theorem test_configure_view_met :
    4 ≤ (4 : Byte).toNat ∧ StreamByte 3 3 ∧ GridBytes 4 3 1 grid ∧ FormatByte 0 .uq1_11 ∧
    (¬ ∃ g, GridBytes 4 13 1 g) ∧ (¬ ∃ f, FormatByte 3 f) ∧ lab.views[(0 : Stream)].anchors ≠ [] ∧
    lab.lists[(1 : Stream)].edits ≠ [] ∧ lab.lists[(2 : Stream)].target ≠ none ∧ lab.views[(3 : Stream)].anchors = [] ∧
    lab.lists[(3 : Stream)].edits = [] ∧ lab.lists[(3 : Stream)].target = none :=
  ⟨by decide, by decide, by decide, by decide, no_grid (by decide), no_format (by decide), by decide +kernel,
    by decide +kernel, by decide +kernel, by decide +kernel, by decide +kernel, by decide +kernel⟩

/-- LayoutAndProjectedOrder: a list in key order with the anchor a MOVE names. -/
theorem test_projected_order_met :
    threeAnchors.Pairwise (fun a b => a.key.toNat ≤ b.key.toNat) ∧
      (∃ x ∈ threeAnchors, x.handle.index = 8) ∧ (threeAnchors.map (fun a => a.handle.index)).Nodup := by decide +kernel

/-- ViewEditPointQueriesReport. -/
theorem test_view_queries_met :
    lab.engine = .idle ∧ 4 ≤ (4 : Byte).toNat ∧ StreamByte 3 3 ∧ lab.views[(0 : Stream)].anchors.length ≤ 8 := by
  decide +kernel

/-- The lab with seven edits on stream 1's list, and with eight. -/
def labEdits (k : Nat) : State :=
  { lab with lists := lab.lists.set 1 { edits := List.replicate k (.attach ⟨5, 3⟩ 256 16), target := none } }

/-- AcceptedEditJoinsList: STAGED, LIVE, an anchor of the view, and the seventh edit. -/
theorem test_accepted_edit_met :
    (lab.views[(1 : Stream)].config = some ⟨grid, .uq1_11⟩ ∧ lab.lists[(1 : Stream)].target = none ∧
      lab.lists[(1 : Stream)].edits.length < 8 ∧ (labEdits 7).lists[(1 : Stream)].edits.length < 8) ∧
    (Names lab (raw 2) 2 ∧ lab.entries[(2 : EntryIndex)].state = .staged ∧
      lab.entries[(2 : EntryIndex)].damaged = false ∧ lab.entries[(2 : EntryIndex)].profile = some profile ∧
      ¬ ∃ a ∈ lab.projected 1, a.handle.index = 2) ∧
    (Names lab (raw 3) 3 ∧ lab.entries[(3 : EntryIndex)].state = .live ∧ lab.lists[(0 : Stream)].target = none ∧
      lab.views[(0 : Stream)].config = some ⟨grid, .uq1_11⟩ ∧ ∃ a ∈ lab.projected 0, a.handle.index = 3) := by
  decide +kernel

/-- EditsRefusedInOrder: each clause. -/
theorem test_edits_refused_met :
    (4 ≤ (4 : Byte).toNat ∧ lab.views[(3 : Stream)].config = none ∧ lab.lists[(2 : Stream)].target = some 1 ∧
      8 ≤ (labEdits 8).lists[(1 : Stream)].edits.length ∧ (labEdits 8).lists[(1 : Stream)].target = none) ∧
    (Names lab (raw 1) 1 ∧ lab.entries[(1 : EntryIndex)].state ≠ .staged ∧ lab.entries[(1 : EntryIndex)].state ≠ .live) ∧
    (let s := labEntry 2 { entry .staged 2 (some unityCrc) 0 0 0 with damaged := true }
     Names s (raw 2) 2 ∧ s.entries[(2 : EntryIndex)].damaged = true) ∧
    (let s := labEntry 2 { entry .staged 2 (some unityCrc) 0 0 0 with profile := some { profile with format := .uq3_9 } }
     Names s (raw 2) 2 ∧ s.entries[(2 : EntryIndex)].damaged = false ∧
       s.entries[(2 : EntryIndex)].profile = some { profile with format := .uq3_9 } ∧ Format.uq3_9 ≠ .uq1_11) ∧
    (Names lab (raw 5) 5 ∧ lab.entries[(5 : EntryIndex)].damaged = false ∧ ∃ a ∈ lab.projected 1, a.handle.index = 5) ∧
    (Names lab (raw 3) 3 ∧ ∀ a ∈ lab.projected 1, a.handle.index ≠ 3) := by decide +kernel

theorem commit_passes_next : CommitPasses lab 1 1 :=
  ⟨⟨grid, .uq1_11⟩, by decide +kernel, by decide +kernel, by decide +kernel, by decide +kernel, by decide +kernel,
    by decide +kernel, by decide +kernel⟩

theorem commit_passes_farthest : CommitPasses lab 1 32767 :=
  ⟨⟨grid, .uq1_11⟩, by decide +kernel, by decide +kernel, by decide +kernel, by decide +kernel, by decide +kernel,
    by decide +kernel, by decide +kernel⟩

/-- CommitArmsEveryStream: NEXT, and the farthest count. -/
theorem test_commit_met :
    lab.engine = .idle ∧ MaskByte 2 2 ∧ (2 : StreamMask) ≠ 0 ∧
    (∀ n, inMask 2 n = true → CommitTarget 0 0 lab.points[n].counter 1 ∧ CommitPasses lab n 1) ∧
    (∀ n, inMask 2 n = true → CommitTarget 1 32767 lab.points[n].counter 32767 ∧ CommitPasses lab n 32767) := by
  refine ⟨rfl, by decide, by decide, ?_, ?_⟩ <;> intro n hn <;>
    (have e : n = 1 := by revert n; decide) <;> subst e
  · exact ⟨by decide +kernel, commit_passes_next⟩
  · exact ⟨by decide +kernel, commit_passes_farthest⟩

/-- The lab with stream 1's list holding nine ATTACHs at rising keys, and two at one key. -/
def labNine : State :=
  { lab with lists := #v[EditList.reset, { edits := (List.range 9).map (fun k : Nat =>
      Edit.attach ⟨Fin.ofNat 64 (k + 10), 3⟩ (BitVec.ofNat 16 (256 * k)) 0), target := none }, EditList.reset,
      EditList.reset] }

/-- The lab with stream 1's list holding two ATTACHs whose plateaus touch. -/
def labCrowded : State :=
  { lab with lists := #v[EditList.reset,
      { edits := [.attach ⟨5, 3⟩ 256 16, .attach ⟨2, 3⟩ 288 16], target := none }, EditList.reset, EditList.reset] }

/-- CommitRefusedAllOrNothing: each check on the stream, and a passing stream before it. -/
theorem test_commit_refused_met :
    (16 ≤ (16 : Byte).toNat ∧ 2 ≤ (2 : Byte).toNat) ∧
    (MaskByte 8 8 ∧ inMask 8 3 = true ∧ CommitTarget 0 0 lab.points[(3 : Stream)].counter 1 ∧
      (∀ j : Stream, j < 3 → inMask 8 j = true →
        ∃ U, CommitTarget 0 0 lab.points[j].counter U ∧ CommitPasses lab j U) ∧
      lab.views[(3 : Stream)].config = none) ∧
    (MaskByte 6 6 ∧ inMask 6 2 = true ∧ (∀ j : Stream, j < 2 → inMask 6 j = true →
        ∃ U, CommitTarget 0 0 lab.points[j].counter U ∧ CommitPasses lab j U) ∧
      lab.lists[(2 : Stream)].edits ≠ [] ∧ lab.lists[(2 : Stream)].target = some 1) ∧
    lab.lists[(0 : Stream)].edits = [] ∧
    (let s := labEntry 5 { entry .staged 2 (some unityCrc) 0 2 0 with damaged := true }
     FirstDamagedAttach s s.lists[(1 : Stream)].edits ⟨5, 3⟩) ∧
    (NoDamagedAttach labNine labNine.lists[(1 : Stream)].edits ∧ 8 < (labNine.projected 1).length) ∧
    (NoDamagedAttach labCrowded labCrowded.lists[(1 : Stream)].edits ∧ (labCrowded.projected 1).length ≤ 8 ∧
      FirstCrowded (labCrowded.projected 1) ⟨⟨5, 3⟩, 256, 16⟩ ⟨⟨2, 3⟩, 288, 16⟩) ∧
    (lab.layoutFault ⟨grid, .uq1_11⟩ (lab.projected 1) = none ∧ (0 : Word) - lab.points[(1 : Stream)].counter = 0 ∧
      32768 ≤ ((32768 : Word) - lab.points[(1 : Stream)].counter).toNat) := by
  refine ⟨by decide, ⟨by decide, by decide, by decide +kernel, ?_, by decide +kernel⟩,
    ⟨by decide, by decide, ?_, by decide +kernel, by decide +kernel⟩, by decide +kernel, ?_, by decide +kernel,
    ⟨by decide +kernel, by decide +kernel, ?_⟩, by decide +kernel⟩
  · intro j hj hm
    exact absurd hm (by revert j; decide)
  · intro j hj hm
    have e : j = 1 := by revert j; decide
    subst e
    exact ⟨1, by decide +kernel, commit_passes_next⟩
  · exact ⟨[], 256, 16, [], by decide +kernel, by decide +kernel, by decide +kernel⟩
  · refine ⟨0, by decide +kernel, by decide +kernel, by decide +kernel, ?_⟩
    intro i x y hi
    exact absurd hi (Nat.not_lt_zero _)

/-- TargetDistanceDecidesCommit: the distances 0, 1, 32767 and 32768 on a stream whose other checks pass. -/
theorem test_target_distance_met :
    MaskByte 2 (streamBit 1) ∧ inMask (streamBit 1) 1 = true ∧ inMask (streamBit 1) 0 = false ∧
    lab.views[(1 : Stream)].config = some ⟨grid, .uq1_11⟩ ∧ lab.lists[(1 : Stream)].edits ≠ [] ∧
    lab.lists[(1 : Stream)].target = none ∧ NoDamagedAttach lab lab.lists[(1 : Stream)].edits ∧
    lab.layoutFault ⟨grid, .uq1_11⟩ (lab.projected 1) = none ∧
    [0, 1, 32767, 32768].map (fun T : Word => (T - lab.points[(1 : Stream)].counter).toNat) = [0, 1, 32767, 32768] := by
  decide +kernel

/-- WithdrawAndDiscard, SetPointsAndClearCounts, PointMakesPoints: a mask in range and one with bit 4 set; SET_POINTS at
each bound, on an ARMED stream and an UNARMED one. -/
theorem test_masks_met :
    lab.engine = .idle ∧ MaskByte 15 15 ∧ MaskByte 0 0 ∧ 16 ≤ (16 : Byte).toNat ∧ StreamByte 3 3 ∧ StreamByte 2 2 ∧
    4 ≤ (4 : Byte).toNat ∧ 2 ≤ (2 : Byte).toNat ∧ (0 : Byte).toNat = 0 ∧ 16 < (17 : Byte).toNat ∧
    1 ≤ (1 : Byte).toNat ∧ (16 : Byte).toNat ≤ 16 ∧ lab.lists[(2 : Stream)].target = some 1 ∧
    lab.lists[(3 : Stream)].target = none ∧ inMask 15 2 = true ∧ DueOn lab 2 := by decide +kernel

/-- EdgeCountsTowardPoints: a line that has the level and one that has not; an edge that fills the prescale and one that
does not. -/
theorem test_edge_met :
    lab.lines[(2 : Stream)] = .low ∧ lab.lines[(2 : Stream)] ≠ .high ∧ lab.points[(2 : Stream)].source = 2 ∧
    lab.points[(2 : Stream)].edgeCount + 1 = lab.points[(2 : Stream)].prescale ∧ DueOn lab 2 ∧
    (let s := { lab with points := lab.points.set 2 { lab.points[2] with prescale := 16 } }
     s.points[(2 : Stream)].edgeCount + 1 ≠ s.points[(2 : Stream)].prescale) ∧
    lab.points[(1 : Stream)].source ≠ 2 := by decide +kernel

/-- ApplySettlesNamedEntries. -/
theorem test_apply_met :
    armedPart.engine = .idle ∧ RecordLaw armedPart ∧ MaskByte 1 (streamBit 0) ∧ DueOn armedPart 0 ∧
      (∃ e ∈ armedPart.lists[(0 : Stream)].edits, e.handle.index = 0) ∧
      (∀ e ∈ armedPart.lists[(0 : Stream)].edits, e.handle.index ≠ 1) :=
  ⟨rfl, armedPart_record, by decide, by decide +kernel, by decide +kernel, by decide +kernel⟩

/-! Selection -/

/-- SelectionByZoneAndDamage: the bounds of each zone, and a gap of weight 0. -/
theorem test_zones_met :
    (∀ (i : Fin 2), ((threeAnchors[i.val]?.map Anchor.upper).getD 0) < ((threeAnchors[i.val + 1]?.map Anchor.lower).getD 0)) ∧
    272 ≤ (⟨⟨2, 4⟩, 256, 16⟩ : Anchor).upper ∧ (⟨⟨13, 2⟩, 512, 32⟩ : Anchor).lower ≤ 480 ∧
    (⟨⟨8, 1⟩, 384, 16⟩ : Anchor).lower ≤ 368 ∧ 400 ≤ (⟨⟨8, 1⟩, 384, 16⟩ : Anchor).upper ∧
    (⟨⟨2, 4⟩, 256, 16⟩ : Anchor).upper < 273 ∧ 273 < (⟨⟨8, 1⟩, 384, 16⟩ : Anchor).lower ∧
    256 * (273 - 272) / (368 - 272) = 2 ∧ blendWeight 1 0 257 = 0 ∧ blendWeight 1 0 256 = 1 := by decide +kernel

/-- BlendLiesBetweenItsKnots: the least weight and the greatest. -/
theorem test_blend_met : 1 ≤ (1 : Byte).toNat ∧ (1 : Byte).toNat ≤ (255 : Byte).toNat := by decide

/-- A lookup with a selection. -/
def withSelection (sel : Selection) : Lookup := { item 1 [1, 2] none with selection := sel }

/-- RowIsMadeOfItsSelection: good rows, and a fault in each entry of a blend. -/
theorem test_rows_met :
    AllGood lab 2 4 4 ∧ AllGood lab 3 4 4 ∧ FirstFault (labFault 2) 2 0 4 3 ∧ AllGood (labFault 2) 3 0 4 ∧
    FirstFault (labFault 3) 3 0 4 3 ∧ AllGood (labFault 3) 2 0 4 ∧
    (withSelection (.blend ⟨2, 3⟩ ⟨3, 3⟩ 128)).selection = .blend ⟨2, 3⟩ ⟨3, 3⟩ 128 ∧
    (withSelection .fallback).selection = .fallback := by decide +kernel

/-- ReleaseFreesDrainedEntries: an entry freed, one kept, and one not named. -/
theorem test_release_met :
    (Selection.blend ⟨4, 3⟩ ⟨3, 3⟩ 1).sources.Nodup ∧ lab.entries[(4 : EntryIndex)].state = .draining ∧
    lab.entries[(4 : EntryIndex)].lookupRefs ≤ 1 ∧ lab.entries[(3 : EntryIndex)].state ≠ .draining ∧
    (2 : EntryIndex) ∉ (Selection.blend ⟨4, 3⟩ ⟨3, 3⟩ 1).sources := by decide +kernel

/-! The lookup link -/

/-- LinkMessageBytesReadBack: fields at their bounds. -/
theorem test_link_bytes_met :
    lab.ports[(0 : Stream)].framing = .waiting ∧ (LinkMessage.lookup 15 65535 255 255).fieldsOk = true ∧
    (LinkMessage.credit 4).fieldsOk = true ∧ (15 : Byte).toNat < 16 ∧ 1 ≤ (1 : Byte).toNat ∧ (4 : Byte).toNat ≤ 4 := by
  decide +kernel

/-- LookupRefusedByFirstCheck: each clause. -/
theorem test_lookup_refused_met :
    Listening lab 0 ∧ lab.ports[(0 : Stream)].active = true ∧ lab.ports[(0 : Stream)].enabled = true ∧
    (let s := { lab with ports := lab.ports.set 0 { lab.ports[0] with active := false } }
     Listening s 0 ∧ s.ports[(0 : Stream)].active = false) ∧
    (let s := { lab with ports := lab.ports.set 0 { lab.ports[0] with enabled := false } }
     Listening s 0 ∧ s.ports[(0 : Stream)].active = true ∧ s.ports[(0 : Stream)].enabled = false) ∧
    (let s := labQueue [item 1 [1] none, item 2 [1] none] 0
     Listening s 0 ∧ (∃ l ∈ s.ports[(0 : Stream)].queue, l.tag = 2) ∧ (∀ l ∈ s.ports[(0 : Stream)].queue, l.tag ≠ 3) ∧
       2 ≤ s.ports[(0 : Stream)].queue.length) ∧
    (Listening lab 3 ∧ lab.views[(3 : Stream)].config = none) ∧
    (lab.views[(0 : Stream)].config = some ⟨grid, .uq1_11⟩ ∧ grid.rows ≤ (3 : Byte).toNat ∧
      grid.rows < (2 : Byte).toNat + (2 : Byte).toNat) := by decide +kernel

/-- LookupAcceptedKeepsItsView: into an empty queue and behind a head; the last row alone, and all rows. -/
theorem test_lookup_accepted_met :
    (Listening lab 0 ∧ lab.ports[(0 : Stream)].active = true ∧ lab.ports[(0 : Stream)].enabled = true ∧
      (∀ l ∈ lab.ports[(0 : Stream)].queue, l.tag ≠ 15) ∧ lab.ports[(0 : Stream)].queue = [] ∧
      lab.views[(0 : Stream)].config = some ⟨grid, .uq1_11⟩ ∧ (2 : Byte).toNat < grid.rows ∧
      (2 : Byte).toNat + (1 : Byte).toNat ≤ grid.rows ∧ (0 : Byte).toNat < grid.rows) ∧
    (let s := labQueue [item 1 [1] none] 0
     Listening s 0 ∧ s.ports[(0 : Stream)].queue ≠ [] ∧ s.ports[(0 : Stream)].queue.length < 2 ∧
       (∀ l ∈ s.ports[(0 : Stream)].queue, l.tag ≠ 2)) ∧
    (lab.select 0 256).anchorA = some ⟨3, 3⟩ ∧ lab.entries[(3 : EntryIndex)].profile.isSome = true := by decide +kernel

/-- CreditCancelAndExpiryAct: each clause. -/
theorem test_credit_cancel_met :
    (Listening lab 0 ∧ lab.ports[(0 : Stream)].active = true ∧ 4 < (labQueue [] 1).ports[(0 : Stream)].credits + 4) ∧
    (let s := labQueue [item 1 [1] none, item 2 [1] none] 0
     Listening s 0 ∧ s.ports[(0 : Stream)].active = true ∧ (∀ l ∈ s.ports[(0 : Stream)].queue, l.tag ≠ 15) ∧
       s.ports[(0 : Stream)].queue = [item 1 [1] none, item 2 [1] none] ∧ (item 1 [1] none).tag ≠ 2 ∧
       (item 1 [1] none).granted = none) ∧
    (let s := labQueue [item 1 [1] (some 0)] 1
     Listening s 0 ∧ s.ports[(0 : Stream)].queue = [item 1 [1] (some 0)] ∧ (item 1 [1] (some 0)).granted ≠ none) ∧
    (let s := { lab with ports := lab.ports.set 0 { lab.ports[0] with queue := [item 1 [1] none], timer := .running 9 20 } }
     s.ports[(0 : Stream)].timer = .running 9 20 ∧ s.ports[(0 : Stream)].queue = [item 1 [1] none]) ∧
    lab.ports[(0 : Stream)].timer = .stopped := by decide +kernel

/-- A resetting head with some messages held behind it. -/
def labHeld (k : Nat) : State :=
  { lab with
      ports := lab.ports.set 0 { lab.ports[0] with
        queue := [{ item 1 [] (some 0) with resetting := true }], held := List.replicate k (.credit 1) }
      datapath := some { port := 0, tag := 1, row := 0 } }

/-- LinkResetClearsThePort: each clause, and the held messages at 7 and 8. -/
theorem test_link_reset_met :
    (Listening lab 0 ∧ lab.ports[(0 : Stream)].active = true ∧ lab.ports[(0 : Stream)].queue = []) ∧
    (let s := labQueue [item 1 [1] none, item 2 [1] none] 2
     Listening s 0 ∧ s.ports[(0 : Stream)].queue = [item 1 [1] none, item 2 [1] none]) ∧
    (let s := labQueue [item 1 [1] (some 0)] 2
     Listening s 0 ∧ s.ports[(0 : Stream)].queue = [item 1 [1] (some 0)] ∧ (item 1 [1] (some 0)).granted ≠ none) ∧
    (let s := labQueue [item 1 [1] (some 0), item 2 [1] none] 2
     Listening s 0 ∧ s.ports[(0 : Stream)].queue = [item 1 [1] (some 0), item 2 [1] none]) ∧
    ((labHeld 7).ports[(0 : Stream)].framing = .waiting ∧ (labHeld 7).ports[(0 : Stream)].resetting = true ∧
      (labHeld 7).ports[(0 : Stream)].held.length < 8 ∧ (labHeld 8).ports[(0 : Stream)].resetting = true ∧
      8 ≤ (labHeld 8).ports[(0 : Stream)].held.length ∧ LinkMessage.reset.fieldsOk = true) := by decide +kernel

/-- DiscardedMessageSkipsToIdle: an unknown kind, a wrong check byte, a field out of range, a skipping lane, an OFFLINE
port. -/
theorem test_discard_met :
    lab.ports[(0 : Stream)].framing = .waiting ∧ (0x81 : Byte).toNat ∉ [0, 0x11, 0x12, 0x13, 0x14] ∧
    (∀ b ∈ ([1, 255] : List Byte), b ≠ 0) ∧ messageLength 0x12 = some (([4] : List Byte).length + 2) ∧
    (0 : Byte) ≠ crc8 (0x12 :: [4]) ∧ (LinkMessage.credit 5).fieldsOk = false ∧ (LinkMessage.credit 0).fieldsOk = false ∧
    (LinkMessage.cancel 16).fieldsOk = false ∧ State.reset.ports[(0 : Stream)].framing = .skipping ∧
    (let s := { lab with ports := lab.ports.set 0 { lab.ports[0] with active := false } }
     Listening s 0 ∧ s.ports[(0 : Stream)].active = false) := by decide +kernel

/-- SetPortAndQueryPort: each clause. -/
theorem test_set_port_met :
    lab.engine = .idle ∧ 4 ≤ (4 : Byte).toNat ∧ 2 ≤ (2 : Byte).toNat ∧ StreamByte 0 0 ∧
    lab.ports[(0 : Stream)].enabled = true ∧ lab.ports[(0 : Stream)].queue = [] ∧
    (labQueue [item 1 [1] none] 0).ports[(0 : Stream)].queue = [item 1 [1] none] ∧
    (labQueue [item 1 [1] none, item 2 [1] none] 0).ports[(0 : Stream)].queue = [item 1 [1] none, item 2 [1] none] ∧
    (labQueue [item 1 [1] (some 0)] 1).ports[(0 : Stream)].queue = [item 1 [1] (some 0)] ∧
    (labQueue [item 1 [1] (some 0), item 2 [1] none] 1).ports[(0 : Stream)].queue =
      [item 1 [1] (some 0), item 2 [1] none] ∧
    (item 1 [1] none).resetting = false ∧ (item 1 [1] (some 0)).granted ≠ none ∧
    (labHeld 0).ports[(0 : Stream)].queue = [{ item 1 [] (some 0) with resetting := true }] := by decide +kernel

/-! The Surface Engine -/

/-- GrantGoesToNextCandidate: no candidate, a row in production, and a candidate behind the port last granted. -/
theorem test_grant_met :
    (∀ q : Stream, lab.ports[q].queue = []) ∧ (labHeld 0).datapath ≠ none ∧
    (let s := labQueue [item 1 [1, 2] none] 1
     s.datapath = none ∧ s.ports[(0 : Stream)].queue = [item 1 [1, 2] none] ∧ (item 1 [1, 2] none).rowsOwed = 1 :: [2] ∧
       1 ≤ s.ports[(0 : Stream)].credits ∧ (∀ q : Stream, q ≠ 0 → s.ports[q].queue = []) ∧ s.lastGranted = 3) := by
  decide +kernel

/-- HandoverMakesRowOrEndsHead: a head owed more rows, one at its last row, a cancelling one, a resetting one. -/
theorem test_handover_met :
    (let s := producing (item 1 [1] (some 0)) [] 1
     s.datapath = some { port := 0, tag := 1, row := 0 } ∧ s.ports[(0 : Stream)].queue = [item 1 [1] (some 0)] ∧
       s.rowKnots (item 1 [1] (some 0)) 0 = .ok (List.replicate 4 2048)) ∧
    (let s := producing (item 1 [] (some 0)) [item 2 [1] none] 1
     s.ports[(0 : Stream)].queue = [item 1 [] (some 0), item 2 [1] none] ∧ (item 1 [] (some 0)).rowsOwed = []) ∧
    (let h := { item 1 [] (some 0) with cancelling := true }
     (producing h [] 1).ports[(0 : Stream)].queue = [h] ∧ h.cancelling = true) ∧
    (labHeld 2).ports[(0 : Stream)].queue = [{ item 1 [] (some 0) with resetting := true }] := by decide +kernel

/-- FaultReportEndsHead: a head that reads a faulty word, resetting or not. -/
theorem test_fault_report_met :
    let h := { withSelection (.pure ⟨2, 3⟩) with granted := some 0 }
    let s := { producing h [] 1 with memory := (labFault 2).memory }
    s.datapath = some { port := 0, tag := 1, row := 0 } ∧ s.ports[(0 : Stream)].queue = [h] ∧
      s.rowKnots h 0 = .error 2 ∧ s.rowKnots { h with resetting := true } 0 = .error 2 ∧ h.resetting = false ∧
      lab.datapath = none := by decide +kernel

/-! The Baseline Store -/

/-- The lab with entry 2's page holding the knots of a slope with a span of 255 or 256. -/
def labSpan (top : Knot) : State :=
  { lab with memory := lab.memory.write 128 (KnotWord.ofValue top) }

/-- ProgramBaselineScans: each clause. -/
theorem test_program_scan_met :
    (4 ≤ (4 : Byte).toNat ∧ StreamByte 1 1 ∧ labSlots.slots[(1 : Stream)].state ≠ .blank ∧
      lab.slots[(1 : Stream)].state = .blank ∧ Names lab (raw 1) 1 ∧
      Names lab (raw 2) 2 ∧ Names lab (raw 3) 3 ∧ lab.entries[(2 : EntryIndex)].damaged = false) ∧
    (let s := labEntry 2 { entry .staged 2 (some unityCrc) 0 0 0 with damaged := true }
     Names s (raw 2) 2 ∧ s.entries[(2 : EntryIndex)].damaged = true) ∧
    (let s := { labFault 2 with engine := Engine.busy 5 (.program 0 2 320 24 .scan) }
     FirstFault s 2 0 s.entries[(2 : EntryIndex)].knotCount 3 ∧ s.entries[(2 : EntryIndex)].profile = some profile ∧
       s.entries[(2 : EntryIndex)].checkValue = some unityCrc) ∧
    (AllGood lab 2 0 12 ∧ crc16 (knotValues lab 2 0 12) = unityCrc ∧
      ∀ c, c < 1 → channelSpan 1 c (knotValues lab 2 0 12) ≤ 255) ∧
    (AllGood (labSpan 2304) 2 0 12 ∧ 255 < channelSpan 1 0 (knotValues (labSpan 2304) 2 0 12) ∧
      channelSpan 1 0 (knotValues (labSpan 2303) 2 0 12) = 255 ∧
      crc16 (knotValues (labSpan 2303) 2 0 12) ≠ unityCrc) := by decide +kernel

/-- ProgramBaselineWritesAndVerifies: a good second read, a faulty one, fields that verify and fields that do not. -/
theorem test_program_write_met :
    AllGood lab 2 0 lab.entries[(2 : EntryIndex)].knotCount ∧
    FirstFault (labFault 2) 2 0 (labFault 2).entries[(2 : EntryIndex)].knotCount 3 ∧
    lab.entries[(2 : EntryIndex)].profile = some profile ∧ labSlots.slots[(1 : Stream)].fields = some slotFields ∧
    GridBytes slotFields.columns slotFields.rows slotFields.channels grid ∧
    crc16 (decompress 1 (4 * 3 * 1) slotFields.bases slotFields.deltas) = slotFields.crc ∧ slotFields.crc ≠ 0 ∧
    labSlots.slots[(2 : Stream)].fields = some { slotFields with crc := 0 } := by decide +kernel

/-- CompressionGivesBackEveryKnot: a span of 255, and an altered base that wraps past 4095. -/
theorem test_compression_met :
    channelSpan 1 0 [2048, 2303] ≤ 255 ∧ (0 < 1 ∧ 0 < ([2048, 2303] : List Knot).length) ∧
    ([4000] : List Knot)[0 % 1]? = some 4000 ∧ ([255] : List Byte)[0]? = some 255 := by decide +kernel

/-- RestoreBaselineAllocates: each clause. -/
theorem test_restore_met :
    labSlots.engine = .idle ∧ 4 ≤ (4 : Byte).toNat ∧ StreamByte 0 0 ∧ StreamByte 1 1 ∧
    labSlots.slots[(0 : Stream)].state = .blank ∧ labSlots.slots[(3 : Stream)].reading = .spoiled .spoiled ∧
    labSlots.slots[(1 : Stream)].reading = .programmed slotFields grid .uq1_11 ∧ labSlots.memory.wf = true ∧
    labSlots.entries[(0 : EntryIndex)].state = .free ∧ (∀ j : EntryIndex, j < 0 → labSlots.entries[j].state ≠ .free) ∧
    (4 * 3 * 1 + 63) / 64 ≤ labSlots.freePages.length ∧
    ({ labSlots with freePages := [] } : State).freePages.length < (4 * 3 * 1 + 63) / 64 ∧
    (let full := { labSlots with entries := Vector.replicate 64 (entry .loading 1 none 0 0 0) }
     ∀ i : EntryIndex, full.entries[i].state ≠ .free) := by decide +kernel

/-- RestoreCompletesByItsCheck and SlotLoadFollowsItsTable: a good load, one with a wrong CRC, one with a fault that
strikes before the check, a spoiled and a blank slot. -/
theorem test_load_met :
    labSlots.memory.wf = true ∧ labSlots.entries[(1 : EntryIndex)].pages.Nodup ∧
    grid.columns * grid.rows * grid.channels ≤ 64 * labSlots.entries[(1 : EntryIndex)].pages.length ∧
    (let l := labSlots.loadKnots 1 slotFields grid []
     AllGood l 1 0 12 ∧ crc16 (knotValues l 1 0 12) = slotFields.crc ∧ crc16 (knotValues l 1 0 12) ≠ 0) ∧
    (let l := labSlots.loadKnots 1 slotFields grid [⟨11, ⟨0, false⟩⟩]
     FirstFault l 1 0 12 11) ∧
    (let s := { labSlots with engine := Engine.busy 5 (.restore 1 1) }
     s.engine = .busy 5 (.restore 1 1) ∧ s.slots[(1 : Stream)].reading = .programmed slotFields grid .uq1_11) ∧
    (let s := { labSlots with engine := Engine.starting 3 none }
     s.engine = .starting 3 none ∧ s.slots[(3 : Stream)].reading = .spoiled .spoiled) ∧
    (let s := { labSlots with engine := Engine.starting 2 (some 1) }
     s.engine = .starting 2 (some 1) ∧
       s.slots[(2 : Stream)].reading = .programmed { slotFields with crc := 0 } grid .uq1_11) ∧
    labSlots.slots[(0 : Stream)].state = .blank ∧ labSlots.entries[(0 : EntryIndex)].state = .free ∧
    (∀ j : EntryIndex, j < 0 → labSlots.entries[j].state ≠ .free) ∧ grid.pageCount ≤ labSlots.freePages.length := by
  decide +kernel

/-- SlotLoadFollowsItsTable, RestoreCompletesByItsCheck, FinishChecksAndStages, VerifyChecksAndMarksDamage,
ProgramBaselineScans, ProgramBaselineWritesAndVerifies: an engine on which none of their rows' operations runs. -/
theorem test_not_running_met :
    (∀ n entry, lab.engine ≠ .starting n entry) ∧ (∀ tag n i, lab.engine ≠ .busy tag (.restore n i)) ∧
    (∀ tag i crc, lab.engine ≠ .busy tag (.finish i crc)) ∧ (∀ tag i, lab.engine ≠ .busy tag (.verify i)) ∧
    ∀ tag n i key plateau stage, lab.engine ≠ .busy tag (.program n i key plateau stage) :=
  ⟨nofun, nofun, nofun, nofun, nofun⟩

/-! The Management Port -/

/-- SettingsAndAlertRequests: the bounds of the group address, of the mask and of the watermark. -/
theorem test_settings_met :
    lab.engine = .idle ∧ (7 : Byte).toNat < 0x08 ∧ 0x77 < (0x78 : Byte).toNat ∧ (0x2C : Byte).toNat = 0x2C ∧
    (0x2F : Byte).toNat = 0x2F ∧ 0x08 ≤ (0x08 : Byte).toNat ∧ (0x77 : Byte).toNat ≤ 0x77 ∧ (0x2B : Byte).toNat < 0x2C ∧
    0x2F < (0x30 : Byte).toNat ∧ 2 ≤ (2 : Byte).toNat ∧ 16 ≤ (16 : Byte).toNat ∧ MaskByte 15 15 ∧
    512 < (513 : Word).toNat ∧ (512 : Word).toNat ≤ 512 := by decide

/-- RequestBytesReadBack: the longest WRITE_KNOTS that is well-formed. -/
theorem test_request_bytes_met :
    (Request.writeKnots (raw 1) 0 29 (List.replicate 29 0)).wellFormed = true ∧
      (Request.create 4 3 1 0 7).wellFormed = true := by decide +kernel

/-- RequestWritesJudged: an unknown code, a wrong length, a length of 65, one byte, and a BUSY and a STARTING part. -/
theorem test_writes_judged_met :
    judgeRequest [0x18, 5, 0] = .unknown 0x18 5 ∧ judgeRequest [0x13, 5, 1, 0] = .format 0x13 5 ∧
    judgeRequest (0x13 :: 5 :: 65 :: List.replicate 65 0) = .format 0x13 5 ∧ judgeRequest [0x13] = .format 0x13 0 ∧
    (0x18 : Byte) ∉ requestCodes ∧ (0x13 : Byte) ∈ requestCodes ∧ 64 < (65 : Byte).toNat ∧ (64 : Byte).toNat ≤ 64 ∧
    State.reset.engine ≠ .idle ∧ ({ lab with engine := .busy 5 (.verify 2) } : State).engine ≠ .idle := by decide +kernel

/-- RequestWritesJudged: a known code whose parameters spell no request of that code. -/
theorem test_wrong_length_met : ∀ r : Request, r.params = [0] → r.code ≠ 0x13 := by
  intro r h
  cases r <;> simp_all [Request.params, Request.code, RawHandle.bytes, wordBytes]

/-- WindowsAndAbort: the unassigned selectors' bounds, and each engine state. -/
theorem test_windows_met :
    (0 : Byte).toNat = 0 ∧ 5 ≤ (5 : Byte).toNat ∧ (lab.selectWindow .response []).window = some .response ∧
    lab.window ≠ some .response ∧ ({ lab with engine := .busy 5 (.finish 1 0) } : State).engine = .busy 5 (.finish 1 0) ∧
    ({ lab with engine := .busy 5 (.verify 2) } : State).engine = .busy 5 (.verify 2) ∧
    ({ lab with engine := .busy 5 (.restore 1 1) } : State).engine = .busy 5 (.restore 1 1) ∧
    ({ lab with engine := .busy 5 (.program 0 2 0 0 .scan) } : State).engine = .busy 5 (.program 0 2 0 0 .scan) ∧
    lab.engine = .idle ∧ State.reset.engine = .starting 0 none := by decide +kernel

/-- The lab with its group address enabled. -/
def labGroup (acknowledger : Bool) : State := { lab with groupEnabled := true, acknowledger := acknowledger }

/-- GroupWriteByTable: each clause. -/
theorem test_group_write_met :
    lab.groupEnabled = false ∧ (labGroup true).groupAddress ≠ 0x59 ∧ (labGroup true).groupAddress = 0x58 ∧
    groupWriteTaken (labGroup true) .absent ∧ groupWriteTaken (labGroup false) .ready ∧
    ¬ groupWriteTaken (labGroup false) .busy ∧ ([0x03, 0] : List Byte).head? ≠ some 0x01 ∧
    ([0x01] : List Byte).length ≤ 1 ∧ (labGroup true).engine = .idle ∧
    ({ labGroup true with engine := .busy 5 (.verify 2) } : State).engine ≠ .idle ∧
    judgeRequest [0x13, 5] = .format 0x13 5 ∧ judgeRequest [0x18, 5, 0] = .unknown 0x18 5 ∧
    judgeRequest [0x13, 5, 0] = .taken 5 .queryStore ∧ groupRequest .queryStore = false ∧
    judgeRequest [0x26, 5, 1, 15] = .taken 5 (.withdraw 15) ∧ groupRequest (.withdraw 15) = true ∧
    judgeRequest [0x30, 5, 1, 0] = .taken 5 (.point 0) ∧ MaskByte 15 15 ∧ MaskByte 0 0 := by decide +kernel

end Sys2Proof.Tests
end

/-! PROOFS. Requests of the Profile Table: what each request row does on an IDLE engine, and its answers. -/

namespace Sys2Proof.ProfileTable

open Sys2Proof Sys2Proof.Machine Sys2Proof.Safety

/-! ### A request row on an IDLE engine -/

/-- s after the write of a request message of `len` bytes that an IDLE engine acknowledges whole (R165, R166). -/
def taken (s : State) (len : Nat) : State := s.selectWindow .request (List.replicate (len + 1) true)

/-- The handle check goes by the entries alone. -/
theorem taken_checkHandle_error {s : State} {len : Nat} {h : RawHandle} {r : Result} (hr : HandleRefused s h r) :
    (taken s len).checkHandle h = .error r := checkHandle_error (s := taken s len) hr

theorem taken_checkHandle_ok {s : State} {len : Nat} {h : RawHandle} {i : EntryIndex} (hn : Names s h i) :
    (taken s len).checkHandle h = .ok i := checkHandle_ok (s := taken s len) hn

/-- An IDLE engine carries a request row of `len` bytes out on the state after its write. -/
theorem next_onRequest {s : State} (h : s.engine = .idle) (len : Nat) (f : State → State) :
    Host.Outcome.next (φ := Fault) (ρ := Refusal) (s.onRequest len f) = .next (f (taken s len)) :=
  congrArg _ (onRequest_idle len f h)

/-! ### DELETE (R11) -/

theorem reqDelete_error {s : State} {tag : Byte} {h : RawHandle} {r : Result} (hc : s.checkHandle h = .error r) :
    reqDelete tag h s = s.respond tag 0x11 r [] := by
  unfold reqDelete
  rw [hc]

/-- DELETE of a LOADING entry frees it. -/
theorem reqDelete_loading {s : State} {tag : Byte} {h : RawHandle} {i : EntryIndex} (hc : s.checkHandle h = .ok i)
    (hst : s.entries[i].state = .loading) :
    reqDelete tag h s = (afterFreeing s i).respond tag 0x11 .ok [h.index, h.revision, 0x00] := by
  unfold reqDelete
  simp only [hc, hst]
  rfl

/-- DELETE of a STAGED entry is refused while edits name it. -/
theorem reqDelete_staged_inUse {s : State} {tag : Byte} {h : RawHandle} {i : EntryIndex}
    (hc : s.checkHandle h = .ok i) (hst : s.entries[i].state = .staged) (hp : 0 < s.entries[i].pendingRefs) :
    reqDelete tag h s = s.respond tag 0x11 .inUse [] := by
  unfold reqDelete
  simp only [hc, hst, hp, ↓reduceIte]

/-- DELETE of a STAGED entry that nothing refers to frees it. -/
theorem reqDelete_staged_free {s : State} {tag : Byte} {h : RawHandle} {i : EntryIndex}
    (hc : s.checkHandle h = .ok i) (hst : s.entries[i].state = .staged) (hp : s.entries[i].pendingRefs = 0)
    (hl : s.entries[i].lookupRefs = 0) :
    reqDelete tag h s = (afterFreeing s i).respond tag 0x11 .ok [h.index, h.revision, 0x00] := by
  unfold reqDelete
  simp only [hc, hst, hp, hl, lt_irrefl, ↓reduceIte]
  rfl

/-- DELETE of a STAGED entry that lookups alone hold drains it. -/
theorem reqDelete_staged_drain {s : State} {tag : Byte} {h : RawHandle} {i : EntryIndex}
    (hc : s.checkHandle h = .ok i) (hst : s.entries[i].state = .staged) (hp : s.entries[i].pendingRefs = 0)
    (hl : s.entries[i].lookupRefs ≠ 0) :
    reqDelete tag h s = (s.setEntry i { s.entries[i] with state := .draining }).respond tag 0x11 .ok
      [h.index, h.revision, 0x04] := by
  unfold reqDelete
  simp only [hc, hst, hp, hl, lt_irrefl, ↓reduceIte]
  rfl

theorem reqDelete_live {s : State} {tag : Byte} {h : RawHandle} {i : EntryIndex} (hc : s.checkHandle h = .ok i)
    (hst : s.entries[i].state = .live) : reqDelete tag h s = s.respond tag 0x11 .live [] := by
  unfold reqDelete
  simp only [hc, hst]

theorem reqDelete_draining {s : State} {tag : Byte} {h : RawHandle} {i : EntryIndex} (hc : s.checkHandle h = .ok i)
    (hst : s.entries[i].state = .draining) : reqDelete tag h s = s.respond tag 0x11 .state [] := by
  unfold reqDelete
  simp only [hc, hst]

/-- Settles O15, by the handle check and then the rows of R11's table. -/
theorem deleteFollowsStateTable : Obligations.DeleteFollowsStateTable := by
  unfold Obligations.DeleteFollowsStateTable
  intro s tag h hidle
  have hrun : exec (.delete tag h) s = .next (reqDelete tag h (taken s 5)) := next_onRequest hidle 5 _
  rw [hrun]
  refine ⟨?_, ?_⟩
  · intro r hr
    exact congrArg _ (reqDelete_error (taken_checkHandle_error hr))
  · intro i hn
    have hc : (taken s 5).checkHandle h = .ok i := taken_checkHandle_ok hn
    refine ⟨?_, ?_, ?_, ?_, ?_, ?_⟩
    · intro hst
      exact congrArg _ (reqDelete_loading hc hst)
    · intro hst hp
      exact congrArg _ (reqDelete_staged_inUse hc hst hp)
    · intro hst hp hl
      exact congrArg _ (reqDelete_staged_free hc hst hp hl)
    · intro hst hp hl
      exact congrArg _ (reqDelete_staged_drain hc hst hp hl.ne')
    · intro hst
      exact congrArg _ (reqDelete_live hc hst)
    · intro hst
      exact congrArg _ (reqDelete_draining hc hst)

/-! ### QUERY_PROFILE and QUERY_STORE (R23, R24) -/

theorem reqQueryProfile_range {s : State} {tag : Byte} {h : RawHandle} (hr : 64 ≤ h.index.toNat) :
    reqQueryProfile tag h s = s.respond tag 0x12 .range [] := by
  unfold reqQueryProfile
  rw [dif_neg (by omega)]

theorem reqQueryProfile_stale {s : State} {tag : Byte} {h : RawHandle} {i : EntryIndex} (hi : h.index.toNat = i.val)
    (hs : s.entries[i].state = .free ∨ s.entries[i].revision ≠ h.revision) :
    reqQueryProfile tag h s = s.respond tag 0x12 .stale [s.entries[i].revision, s.entries[i].state.byte] := by
  have hlt : h.index.toNat < 64 := by omega
  have e : (⟨h.index.toNat, hlt⟩ : EntryIndex) = i := Fin.ext hi
  unfold reqQueryProfile
  rw [dif_pos hlt]
  simp only [e]
  rw [if_pos hs]

theorem reqQueryProfile_ok {s : State} {tag : Byte} {h : RawHandle} {i : EntryIndex} (hn : Names s h i) :
    reqQueryProfile tag h s = s.respond tag 0x12 .ok (s.profileBytes i) := by
  obtain ⟨hi, hfree, hrev⟩ := hn
  have hlt : h.index.toNat < 64 := by omega
  have e : (⟨h.index.toNat, hlt⟩ : EntryIndex) = i := Fin.ext hi
  unfold reqQueryProfile
  rw [dif_pos hlt]
  simp only [e]
  rw [if_neg (by tauto)]

/-- A mask in data is the mask with bits 4 to 7 clear. -/
theorem maskByte_setWidth (m : StreamMask) : maskByte m = m.setWidth 8 := by
  apply BitVec.eq_of_toNat_eq
  simp [maskByte]

/-- The data of QUERY_PROFILE for an allocated entry, item by item. -/
theorem profileBytes_eq {s : State} {h : RawHandle} {i : EntryIndex} {p : Profile} (hn : Names s h i)
    (hp : s.entries[i].profile = some p) : s.profileBytes i =
      [h.index, h.revision, s.entries[i].state.byte, p.origin.byte, byteOf p.geometry.columns, byteOf p.geometry.rows,
        byteOf p.geometry.channels, p.format.byte]
        ++ wordOfNat (p.geometry.columns * p.geometry.rows * p.geometry.channels)
        ++ [byteOf s.entries[i].pages.length] ++ s.entries[i].pages.flatMap wordOfNat ++ wordBytes p.label
        ++ [if s.entries[i].checkValue.isSome then 1 else 0] ++ wordBytes (s.entries[i].checkValue.getD 0)
        ++ [if s.entries[i].damaged then 1 else 0, s.entries[i].membership.setWidth 8,
            byteOf s.entries[i].pendingRefs, byteOf s.entries[i].lookupRefs] := by
  obtain ⟨hi, _, hrev⟩ := hn
  have hb : byteOf i.val = h.index := by
    rw [← hi]
    simp [byteOf]
  unfold State.profileBytes
  simp only [hp, hb, hrev, maskByte_setWidth, Entry.knotCount, Geometry.knotCount, Geometry.bytes, flagByte,
    List.cons_append, List.nil_append, List.append_assoc]

/-- The pages of DRAINING entries, summed over every entry. -/
theorem drainingPages_eq (s : State) :
    s.drainingPages = (s.entries.toList.map (fun e => if e.state = .draining then e.pages.length else 0)).sum := by
  unfold State.drainingPages
  generalize s.entries.toList = l
  induction l with
  | nil => rfl
  | cons e es ih =>
    by_cases hd : e.state = .draining <;> simp [hd, ih]

/-- Bit j of a byte that is summed from powers of two. -/
theorem getLsbD_byteOf_sum (b : Nat → Bool) (j : Nat) (hj : j < 8) :
    (byteOf (((List.range 8).map (fun i => if b i then 2 ^ i else 0)).sum)).getLsbD j = b j := by
  have hall : ∀ b0 b1 b2 b3 b4 b5 b6 b7 : Bool,
      let n := (if b0 then 1 else 0) + (if b1 then 2 else 0) + (if b2 then 4 else 0) + (if b3 then 8 else 0) +
        (if b4 then 16 else 0) + (if b5 then 32 else 0) + (if b6 then 64 else 0) + (if b7 then 128 else 0)
      (BitVec.ofNat 8 n).getLsbD 0 = b0 ∧ (BitVec.ofNat 8 n).getLsbD 1 = b1 ∧ (BitVec.ofNat 8 n).getLsbD 2 = b2 ∧
      (BitVec.ofNat 8 n).getLsbD 3 = b3 ∧ (BitVec.ofNat 8 n).getLsbD 4 = b4 ∧ (BitVec.ofNat 8 n).getLsbD 5 = b5 ∧
      (BitVec.ofNat 8 n).getLsbD 6 = b6 ∧ (BitVec.ofNat 8 n).getLsbD 7 = b7 := by decide +kernel
  obtain ⟨h0, h1, h2, h3, h4, h5, h6, h7⟩ := hall (b 0) (b 1) (b 2) (b 3) (b 4) (b 5) (b 6) (b 7)
  have e : ((List.range 8).map (fun i => if b i then 2 ^ i else 0)).sum =
      (if b 0 then 1 else 0) + (if b 1 then 2 else 0) + (if b 2 then 4 else 0) + (if b 3 then 8 else 0) +
        (if b 4 then 16 else 0) + (if b 5 then 32 else 0) + (if b 6 then 64 else 0) + (if b 7 then 128 else 0) := by
    simp [List.range_succ, Nat.add_assoc]
  unfold byteOf
  rw [e]
  interval_cases j <;> assumption

/-- Bit i mod 8 of byte i / 8 of the entry map says whether entry i is allocated (R24). -/
theorem mapByte_bit (s : State) (i : EntryIndex) :
    (s.mapByte (i.val / 8)).getLsbD (i.val % 8) = decide (s.entries[i].state ≠ .free) := by
  have hlt : i.val % 8 < 8 := Nat.mod_lt _ (by decide)
  have e : s.mapByte (i.val / 8) = byteOf (((List.range 8).map (fun j =>
      if (s.entries[8 * (i.val / 8) + j]?.any (fun e => e.state ≠ .free)) then 2 ^ j else 0)).sum) := by
    unfold State.mapByte
    congr 3
    funext j
    cases s.entries[8 * (i.val / 8) + j]? with
    | none => rfl
    | some e => by_cases hf : e.state = .free <;> simp [hf]
  rw [e, getLsbD_byteOf_sum _ _ hlt, Nat.div_add_mod]
  simp

/-- Settles O16: each query by its own checks, and the entry map bit by bit. -/
theorem profileAndStoreQueriesReport : Obligations.ProfileAndStoreQueriesReport := by
  unfold Obligations.ProfileAndStoreQueriesReport
  have hrun : ∀ {s : State} (tag : Byte) (h : RawHandle), s.engine = .idle →
      exec (.queryProfile tag h) s = .next (reqQueryProfile tag h (taken s 5)) :=
    fun tag h hidle => next_onRequest hidle 5 _
  refine ⟨?_, ?_, ?_, ?_, ?_, ?_, ?_⟩
  · intro s tag h i p hidle hn hp
    rw [hrun tag h hidle, reqQueryProfile_ok (s := taken s 5) hn, profileBytes_eq (s := taken s 5) hn hp]
    rfl
  · intro s tag h i hidle hi hst
    rw [hrun tag h hidle, reqQueryProfile_stale (s := taken s 5) hi hst]
    rfl
  · intro s tag h hidle hr
    rw [hrun tag h hidle, reqQueryProfile_range hr]
    rfl
  · intro s tag hidle
    have hq : exec (.queryStore tag) s = .next (reqQueryStore tag (taken s 3)) := next_onRequest hidle 3 _
    refine ⟨(List.range 8).map s.mapByte, ?_, by simp, ?_⟩
    · rw [hq, ← drainingPages_eq]
      rfl
    · intro i
      have hlt : i.val / 8 < 8 := by omega
      rw [← mapByte_bit s i]
      simp [hlt]
  · intro st
    cases st <;> rfl
  · intro o
    cases o with
    | host => rfl
    | baseline n => revert n; decide
  · intro f
    cases f <;> rfl

/-! ### CREATE (R6 to R8, R28, R48) -/

/-- s with the memory, the free list and the alerts of a grant of these pages, and entry i allocated to them (R6). -/
def granted (s : State) (i : EntryIndex) (pr : Profile) : State :=
  ((s.takePages pr.geometry.pageCount).fillPages (s.freePages.take pr.geometry.pageCount) pr.format).setEntry i
    (s.entries[i].allocated pr (s.freePages.take pr.geometry.pageCount))

/-- The pages taken, POOL_LOW judged (R48), in one record. -/
theorem takePages_eq (s : State) (p : Nat) :
    s.takePages p = { s with
      freePages := s.freePages.drop p
      alerts := if s.watermark ≤ s.freePages.length ∧ s.freePages.length - p < s.watermark
                then insertAlert .poolLow s.alerts else s.alerts } := by
  unfold State.takePages
  simp only
  split <;> rfl

/-- A grant writes entries, memory, the free list and the alerts, and nothing else. -/
theorem granted_frame (s : State) (i : EntryIndex) (pr : Profile) :
    granted s i pr = { s with
      entries := s.entries.set i (s.entries[i].allocated pr (s.freePages.take pr.geometry.pageCount))
      memory := (granted s i pr).memory
      freePages := s.freePages.drop pr.geometry.pageCount
      alerts := if s.watermark ≤ s.freePages.length ∧ s.freePages.length - pr.geometry.pageCount < s.watermark
                then insertAlert .poolLow s.alerts else s.alerts } := by
  unfold granted
  rw [takePages_eq]
  rfl

theorem granted_memory (s : State) (i : EntryIndex) (pr : Profile) :
    (granted s i pr).memory = (s.freePages.take pr.geometry.pageCount).foldl
      (fun m p => m.fillPage p (KnotWord.ofValue pr.format.unity)) s.memory := by
  unfold granted
  rw [takePages_eq]
  rfl

/-- Every word of the pages of a grant holds the format's unity value (R28). -/
theorem granted_read_page {s : State} {i : EntryIndex} {pr : Profile} (hm : s.memory.wf = true) {page o : Nat}
    (hp : page ∈ s.freePages.take pr.geometry.pageCount) (ho : o < 64) :
    (granted s i pr).memory.read (64 * page + o) = KnotWord.ofValue pr.format.unity := by
  rw [granted_memory]
  exact (fillPages_spec _ _ hm).2.1 page hp o ho

/-- A grant writes no word outside its pages. -/
theorem granted_read_other {s : State} {i : EntryIndex} {pr : Profile} (hm : s.memory.wf = true) {a : Nat}
    (ha : a / 64 ∉ s.freePages.take pr.geometry.pageCount) :
    (granted s i pr).memory.read a = s.memory.read a := by
  rw [granted_memory]
  exact (fillPages_spec _ _ hm).2.2 a ha

/-- A granted allocation. -/
theorem allocate_granted {s : State} {i : EntryIndex} {pr : Profile} (hi : s.lowestFree = some i)
    (hp : pr.geometry.pageCount ≤ s.freePages.length) : s.allocate pr = .ok (i, granted s i pr) :=
  allocate_ok hi hp

/-- What an allocation can answer. -/
theorem allocate_cases (s : State) (pr : Profile) :
    (∃ r, s.allocate pr = .error r) ∨
      ∃ i, s.lowestFree = some i ∧ pr.geometry.pageCount ≤ s.freePages.length ∧
        s.allocate pr = .ok (i, granted s i pr) := by
  cases hi : s.lowestFree with
  | none => exact .inl ⟨_, allocate_tableFull hi⟩
  | some i =>
    by_cases hp : pr.geometry.pageCount ≤ s.freePages.length
    · exact .inr ⟨i, rfl, hp, allocate_granted hi hp⟩
    · exact .inl ⟨_, allocate_noSpace hi (by omega)⟩

/-- An allocation fails for want of pages whichever entry is FREE. -/
theorem allocate_noSpace_of_free {s : State} {i : EntryIndex} {pr : Profile} (hi : s.entries[i].state = .free)
    (hp : s.freePages.length < pr.geometry.pageCount) : s.allocate pr = .error .noSpace := by
  cases hl : s.lowestFree with
  | none =>
    unfold State.lowestFree at hl
    rw [List.find?_eq_none] at hl
    exact absurd hi (by simpa using hl i (List.mem_finRange i))
  | some j => exact allocate_noSpace hl hp

theorem reqCreate_range_grid {s : State} {tag c r ch f : Byte} {label : Word} (h : geometryOf c r ch = none) :
    reqCreate tag c r ch f label s = s.respond tag 0x10 .range [] := by
  unfold reqCreate
  rw [h]

theorem reqCreate_range_format {s : State} {tag c r ch f : Byte} {label : Word} (h : formatOf f = none) :
    reqCreate tag c r ch f label s = s.respond tag 0x10 .range [] := by
  unfold reqCreate
  rw [h]
  split
  · next e => cases e
  · rfl

/-- CREATE of a grid and a format in range, its allocation granted. -/
theorem reqCreate_ok {s s' : State} {tag c r ch f : Byte} {label : Word} {g : Geometry} {fmt : Format}
    {i : EntryIndex} (hg : GridBytes c r ch g) (hf : FormatByte f fmt)
    (ha : s.allocate { origin := .host, geometry := g, format := fmt, label := label } = .ok (i, s')) :
    reqCreate tag c r ch f label s = s'.respond tag 0x10 .ok
      ([byteOf i.val, s'.entries[i].revision] ++ wordOfNat g.knotCount ++ [byteOf g.pageCount]) := by
  unfold reqCreate
  simp only [geometryOf_some hg, formatOf_some hf, ha]

/-- CREATE of a grid and a format in range, its allocation refused. -/
theorem reqCreate_error {s : State} {tag c r ch f : Byte} {label : Word} {g : Geometry} {fmt : Format} {res : Result}
    (hg : GridBytes c r ch g) (hf : FormatByte f fmt)
    (ha : s.allocate { origin := .host, geometry := g, format := fmt, label := label } = .error res) :
    reqCreate tag c r ch f label s = s.respond tag 0x10 res [] := by
  unfold reqCreate
  simp only [geometryOf_some hg, formatOf_some hf, ha]

/-- The revision of an entry just granted (R4). -/
theorem granted_revision (s : State) (i : EntryIndex) (pr : Profile) :
    (granted s i pr).entries[i].revision = s.entries[i].revision + 1 := by
  unfold granted
  rw [setEntry_get_same]
  rfl

/-- The record of an entry just granted (R6, R8). -/
theorem granted_entry_same (s : State) (i : EntryIndex) (pr : Profile) :
    (granted s i pr).entries[i] = s.entries[i].allocated pr (s.freePages.take pr.geometry.pageCount) := by
  unfold granted
  rw [setEntry_get_same]

theorem granted_entry_other (s : State) (i j : EntryIndex) (pr : Profile) (h : j ≠ i) :
    (granted s i pr).entries[j] = s.entries[j] := by
  unfold granted
  rw [setEntry_get_other _ _ _ _ h, takePages_eq]
  rfl

/-- Settles O13: an accepted CREATE is a grant with its answer, a refused one the answer alone. -/
theorem createAllocatesOrRefuses : Obligations.CreateAllocatesOrRefuses := by
  unfold Obligations.CreateAllocatesOrRefuses
  have hrun : ∀ {s : State} (tag c r ch f : Byte) (label : Word), s.engine = .idle →
      exec (.create tag c r ch f label) s = .next (reqCreate tag c r ch f label (taken s 9)) :=
    fun tag c r ch f label hidle => next_onRequest hidle 9 _
  refine ⟨?_, ?_⟩
  · intro s tag c r ch f label g fmt i hidle hm hg hf hfree hlow hpages p rev
    let pr : Profile := { origin := .host, geometry := g, format := fmt, label := label }
    have ha : (taken s 9).allocate pr = .ok (i, granted (taken s 9) i pr) :=
      allocate_granted (lowestFree_some (s := taken s 9) hfree hlow) hpages
    rw [hrun tag c r ch f label hidle, reqCreate_ok hg hf ha]
    refine ⟨_, rfl, ?_, ?_, ?_, ?_, ?_, ?_, ?_⟩
    · rw [granted_revision, granted_frame]
      rfl
    · exact granted_entry_same (taken s 9) i pr
    · intro j hj
      exact granted_entry_other (taken s 9) i j pr hj
    · rw [granted_frame]
      rfl
    · intro page hp o ho
      exact granted_read_page (s := taken s 9) (i := i) (pr := pr) hm hp ho
    · intro a hn
      exact granted_read_other (s := taken s 9) (i := i) (pr := pr) hm hn
    · rw [granted_frame]
      rfl
  · intro s tag c r ch f label hidle
    rw [hrun tag c r ch f label hidle]
    refine ⟨?_, ?_, ?_, ?_⟩
    · intro hg
      exact congrArg _ (reqCreate_range_grid (geometryOf_none hg))
    · intro g _ hf
      exact congrArg _ (reqCreate_range_format (formatOf_none hf))
    · intro g fmt hg hf hfull
      exact congrArg _ (reqCreate_error hg hf (allocate_tableFull (lowestFree_none (s := taken s 9) hfull)))
    · intro g fmt i hg hf hfree hp
      exact congrArg _ (reqCreate_error hg hf (allocate_noSpace_of_free (s := taken s 9) hfree hp))

end Sys2Proof.ProfileTable

/-! PROOFS. The handle check at its place in each request that names a profile, and the edits ATTACH, DETACH, MOVE. -/

namespace Sys2Proof.ProfileTable

open Sys2Proof Sys2Proof.Machine Sys2Proof.Safety

/-! ### Requests on knots (R33, R35, R39, R42) -/

/-- A WRITE_KNOTS of at most 29 knots, all its bytes acknowledged (R166). -/
theorem exec_writeKnots_idle {s : State} {tag : Byte} {h : RawHandle} {first : Word} {count : Byte} {ks : List Word}
    (hidle : s.engine = .idle) (hlen : ks.length ≤ 29) :
    exec (.writeKnots tag h first count ks) s =
      .next (reqWriteKnots tag h first count ks (taken s (8 + 2 * ks.length))) := by
  have hparams : (Request.writeKnots h first count ks).params.length = 5 + 2 * ks.length := by
    simp only [Request.params, RawHandle.bytes, wordBytes, List.length_append, length_wordBytes, List.length_cons,
      List.length_nil]
  have hacks : requestAcks (encodeRequest tag (.writeKnots h first count ks)) =
      List.replicate (8 + 2 * ks.length + 1) true := by
    rw [requestAcks_encodeRequest _ _ (by omega), hparams]
    congr 1
    omega
  have hrun := onMessage_idle (encodeRequest tag (.writeKnots h first count ks)) (reqWriteKnots tag h first count ks) hidle
  rw [hacks] at hrun
  exact congrArg _ hrun

/-- WRITE_KNOTS of as many knots as it says, each in range, by its handle check. -/
theorem reqWriteKnots_error {s : State} {tag : Byte} {h : RawHandle} {first : Word} {count : Byte} {ks : List Word}
    {r : Result} (hlen : ks.length = count.toNat) (hmax : count.toNat ≤ 29) (hks : ∀ k ∈ ks, k.toNat < 4096)
    (hc : s.checkHandle h = .error r) : reqWriteKnots tag h first count ks s = s.respond tag 0x14 r [] := by
  have hany : ks.any (fun k => 4096 ≤ k.toNat) = false := by
    simpa using hks
  unfold reqWriteKnots
  rw [if_neg (by omega), hany, hc]
  rfl

theorem reqReadKnots_error {s : State} {tag : Byte} {h : RawHandle} {first : Word} {count : Byte} {r : Result}
    (hc : s.checkHandle h = .error r) : reqReadKnots tag h first count s = s.respond tag 0x15 r [] := by
  unfold reqReadKnots
  rw [hc]

theorem reqFinish_error {s : State} {tag : Byte} {h : RawHandle} {crc : Word} {r : Result}
    (hc : s.checkHandle h = .error r) : reqFinish tag h crc s = s.respond tag 0x16 r [] := by
  unfold reqFinish
  rw [hc]

theorem reqVerify_error {s : State} {tag : Byte} {h : RawHandle} {r : Result}
    (hc : s.checkHandle h = .error r) : reqVerify tag h s = s.respond tag 0x17 r [] := by
  unfold reqVerify
  rw [hc]

theorem reqQueryProfile_error {s : State} {tag : Byte} {h : RawHandle} {r : Result} (hr : HandleRefused s h r) :
    ∃ d, reqQueryProfile tag h s = s.respond tag 0x12 r d := by
  rcases hr with ⟨hi, rfl⟩ | ⟨i, hi, hst, rfl⟩
  · exact ⟨_, reqQueryProfile_range hi⟩
  · exact ⟨_, reqQueryProfile_stale hi hst⟩

theorem reqProgramBaseline_error {s : State} {tag b : Byte} {n : Stream} {h : RawHandle} {k p : Word} {r : Result}
    (hb : StreamByte b n) (hblank : s.slots[n].reading = .blank) (hc : s.checkHandle h = .error r) :
    reqProgramBaseline tag b h k p s = s.respond tag 0x50 r [] := by
  unfold reqProgramBaseline
  simp only [streamOf_some hb, hblank, hc, ne_eq, not_true_eq_false, ↓reduceIte]

/-! ### The checks that the edits share (R69) -/

theorem checkEdit_range {s : State} {b : Byte} {h : RawHandle} (hb : 4 ≤ b.toNat) :
    s.checkEdit b h = .error (.range, []) := by
  unfold State.checkEdit
  rw [streamOf_none hb]

theorem checkEdit_unconfigured {s : State} {b : Byte} {n : Stream} {h : RawHandle} (hb : StreamByte b n)
    (hv : s.views[n].config = none) : s.checkEdit b h = .error (.unconfigured, []) := by
  unfold State.checkEdit
  simp only [streamOf_some hb, hv]

theorem checkEdit_armed {s : State} {b : Byte} {n : Stream} {h : RawHandle} {c : ViewConfig} {t : Word}
    (hb : StreamByte b n) (hv : s.views[n].config = some c) (ht : s.lists[n].target = some t) :
    s.checkEdit b h = .error (.armed, wordBytes t) := by
  unfold State.checkEdit
  simp only [streamOf_some hb, hv, ht]

theorem checkEdit_listFull {s : State} {b : Byte} {n : Stream} {h : RawHandle} {c : ViewConfig}
    (hb : StreamByte b n) (hv : s.views[n].config = some c) (ht : s.lists[n].target = none)
    (hl : 8 ≤ s.lists[n].edits.length) : s.checkEdit b h = .error (.listFull, []) := by
  unfold State.checkEdit
  simp only [streamOf_some hb, hv, ht, hl, ↓reduceIte]

theorem checkEdit_handle {s : State} {b : Byte} {n : Stream} {h : RawHandle} {c : ViewConfig} {r : Result}
    (hb : StreamByte b n) (hv : s.views[n].config = some c) (ht : s.lists[n].target = none)
    (hl : s.lists[n].edits.length < 8) (hc : s.checkHandle h = .error r) : s.checkEdit b h = .error (r, []) := by
  unfold State.checkEdit
  simp only [streamOf_some hb, hv, ht, hc, Nat.not_le.2 hl, ↓reduceIte]

theorem checkEdit_ok {s : State} {b : Byte} {n : Stream} {h : RawHandle} {c : ViewConfig} {i : EntryIndex}
    (hb : StreamByte b n) (hv : s.views[n].config = some c) (ht : s.lists[n].target = none)
    (hl : s.lists[n].edits.length < 8) (hc : s.checkHandle h = .ok i) : s.checkEdit b h = .ok (n, c, i) := by
  unfold State.checkEdit
  simp only [streamOf_some hb, hv, ht, hc, Nat.not_le.2 hl, ↓reduceIte]

/-- An edit whose shared checks fail is answered with what they give, whichever of the three it is. -/
theorem edit_refused {s : State} {tag b : Byte} {h : RawHandle} {k p : Word} {req : Instr} {len : Nat} {code : Byte}
    {r : Result} {d : List Byte} (hidle : s.engine = .idle)
    (hreq : (req, len, code) ∈
      [(Instr.attach tag b h k p, 10, (0x22 : Byte)), (.detach tag b h, 6, 0x23), (.move tag b h k p, 10, 0x24)])
    (hc : s.checkEdit b h = .error (r, d)) : exec req s = .next (answered s len tag code r d) := by
  have hc' : ∀ len, (taken s len).checkEdit b h = .error (r, d) := fun _ => hc
  simp only [List.mem_cons, Prod.mk.injEq, List.not_mem_nil, or_false] at hreq
  rcases hreq with ⟨rfl, rfl, rfl⟩ | ⟨rfl, rfl, rfl⟩ | ⟨rfl, rfl, rfl⟩
  · have hrun : exec (.attach tag b h k p) s = .next (reqAttach tag b h k p (taken s 10)) := next_onRequest hidle 10 _
    rw [hrun, reqAttach, hc']
    rfl
  · have hrun : exec (.detach tag b h) s = .next (reqDetach tag b h (taken s 6)) := next_onRequest hidle 6 _
    rw [hrun, reqDetach, hc']
    rfl
  · have hrun : exec (.move tag b h k p) s = .next (reqMove tag b h k p (taken s 10)) := next_onRequest hidle 10 _
    rw [hrun, reqMove, hc']
    rfl

/-- Settles O14: the handle check at its place in each request. -/
theorem handleCheckRefuses : Obligations.HandleCheckRefuses := by
  unfold Obligations.HandleCheckRefuses
  intro s tag h r hidle hr
  have hc : ∀ {len}, (taken s len).checkHandle h = .error r := taken_checkHandle_error hr
  refine ⟨?_, ?_, ?_, ?_, ?_, ?_, ?_, ?_⟩
  · exact (next_onRequest hidle 5 _).trans (congrArg _ (reqDelete_error hc))
  · obtain ⟨d, hd⟩ := reqQueryProfile_error (s := taken s 5) (tag := tag) hr
    exact ⟨d, (next_onRequest hidle 5 _).trans (congrArg _ hd)⟩
  · intro first count ks hlen hmax hks
    exact (exec_writeKnots_idle hidle (by omega)).trans (congrArg _ (reqWriteKnots_error hlen hmax hks hc))
  · intro first count
    exact (next_onRequest hidle 8 _).trans (congrArg _ (reqReadKnots_error hc))
  · intro crc
    exact (next_onRequest hidle 7 _).trans (congrArg _ (reqFinish_error hc))
  · exact (next_onRequest hidle 5 _).trans (congrArg _ (reqVerify_error hc))
  · intro b n c k p hb hv ht hl
    have he : s.checkEdit b h = .error (r, []) := checkEdit_handle hb hv ht hl (checkHandle_error hr)
    exact ⟨edit_refused (k := k) (p := p) hidle (by simp) he, edit_refused (k := k) (p := p) hidle (by simp) he,
      edit_refused (k := k) (p := p) hidle (by simp) he⟩
  · intro b n k p hb hblank
    exact (next_onRequest hidle 10 _).trans (congrArg _ (reqProgramBaseline_error (s := taken s 10) hb hblank hc))

/-! ### The checks of each kind of edit (R70, R71) -/

/-- An anchor list has an anchor that names entry i. -/
theorem findAnchor_isSome {i : EntryIndex} {as : List Anchor} :
    (findAnchor i as).isSome = true ↔ ∃ a ∈ as, a.handle.index = i := by
  simp [findAnchor, List.find?_isSome]

theorem findAnchor_isSome_eq_false {i : EntryIndex} {as : List Anchor} :
    (findAnchor i as).isSome = false ↔ ∀ a ∈ as, a.handle.index ≠ i := by
  rw [← Bool.not_eq_true, findAnchor_isSome]
  simp

/-- An entry with a profile fits a view exactly when grid and format are the view's. -/
theorem fits_iff {e : Entry} {pr : Profile} {c : ViewConfig} (hp : e.profile = some pr) :
    e.fits c = true ↔ pr.geometry = c.geometry ∧ pr.format = c.format := by
  simp [Entry.fits, hp]

section Edits

variable {s : State} {tag b : Byte} {h : RawHandle} {k p : Word} {n : Stream} {c : ViewConfig} {i : EntryIndex}

theorem reqAttach_state (hc : s.checkEdit b h = .ok (n, c, i)) (h1 : s.entries[i].state ≠ .staged)
    (h2 : s.entries[i].state ≠ .live) : reqAttach tag b h k p s = s.respond tag 0x22 .state [] := by
  unfold reqAttach
  simp only [hc]
  rw [if_pos ⟨h1, h2⟩]

theorem reqAttach_damaged (hc : s.checkEdit b h = .ok (n, c, i))
    (hst : s.entries[i].state = .staged ∨ s.entries[i].state = .live) (hd : s.entries[i].damaged = true) :
    reqAttach tag b h k p s = s.respond tag 0x22 .damaged [] := by
  unfold reqAttach
  simp only [hc, hd]
  rw [if_neg (by tauto)]
  rfl

theorem reqAttach_geometry (hc : s.checkEdit b h = .ok (n, c, i))
    (hst : s.entries[i].state = .staged ∨ s.entries[i].state = .live) (hd : s.entries[i].damaged = false)
    (hf : s.entries[i].fits c = false) : reqAttach tag b h k p s = s.respond tag 0x22 .geometry [] := by
  unfold reqAttach
  simp only [hc, hd, hf]
  rw [if_neg (by tauto)]
  rfl

theorem reqAttach_duplicate (hc : s.checkEdit b h = .ok (n, c, i))
    (hst : s.entries[i].state = .staged ∨ s.entries[i].state = .live) (hd : s.entries[i].damaged = false)
    (hf : s.entries[i].fits c = true) (hn : ∃ a ∈ s.projected n, a.handle.index = i) :
    reqAttach tag b h k p s = s.respond tag 0x22 .duplicate [] := by
  unfold reqAttach
  simp only [hc, hd, hf, findAnchor_isSome.2 hn]
  rw [if_neg (by tauto)]
  rfl

theorem reqAttach_ok (hc : s.checkEdit b h = .ok (n, c, i))
    (hst : s.entries[i].state = .staged ∨ s.entries[i].state = .live) (hd : s.entries[i].damaged = false)
    (hf : s.entries[i].fits c = true) (hn : ¬ ∃ a ∈ s.projected n, a.handle.index = i) :
    reqAttach tag b h k p s = s.acceptEdit tag 0x22 n (.attach { index := i, revision := h.revision } k p) := by
  unfold reqAttach
  simp only [hc, hd, hf, findAnchor_isSome_eq_false.2 (by simpa using hn)]
  rw [if_neg (by tauto)]
  rfl

theorem reqDetach_notMember (hc : s.checkEdit b h = .ok (n, c, i)) (hn : ∀ a ∈ s.projected n, a.handle.index ≠ i) :
    reqDetach tag b h s = s.respond tag 0x23 .notMember [] := by
  unfold reqDetach
  simp only [hc, findAnchor_isSome_eq_false.2 hn]
  rfl

theorem reqDetach_ok (hc : s.checkEdit b h = .ok (n, c, i)) (hn : ∃ a ∈ s.projected n, a.handle.index = i) :
    reqDetach tag b h s = s.acceptEdit tag 0x23 n (.detach { index := i, revision := h.revision }) := by
  unfold reqDetach
  simp only [hc, findAnchor_isSome.2 hn]
  rfl

theorem reqMove_notMember (hc : s.checkEdit b h = .ok (n, c, i)) (hn : ∀ a ∈ s.projected n, a.handle.index ≠ i) :
    reqMove tag b h k p s = s.respond tag 0x24 .notMember [] := by
  unfold reqMove
  simp only [hc, findAnchor_isSome_eq_false.2 hn]
  rfl

theorem reqMove_ok (hc : s.checkEdit b h = .ok (n, c, i)) (hn : ∃ a ∈ s.projected n, a.handle.index = i) :
    reqMove tag b h k p s = s.acceptEdit tag 0x24 n (.move { index := i, revision := h.revision } k p) := by
  unfold reqMove
  simp only [hc, findAnchor_isSome.2 hn]
  rfl

/-- s with edit e joined to stream n's list, and a pending reference more on its entry (R14, R72). -/
def joined (s : State) (n : Stream) (e : Edit) : State :=
  { s with lists := s.lists.set n { s.lists[n] with edits := s.lists[n].edits ++ [e] }
           entries := s.entries.set e.handle.index
             { s.entries[e.handle.index] with pendingRefs := s.entries[e.handle.index].pendingRefs + 1 } }

/-- An accepted edit's effect and its answer: stream, position, projected count. -/
theorem acceptEdit_eq (s : State) (tag code : Byte) {b : Byte} {n : Stream} (hb : StreamByte b n) (e : Edit) :
    s.acceptEdit tag code n e = (joined s n e).respond tag code .ok
      [b, byteOf (s.lists[n].edits.length + 1),
       byteOf (applyEdits s.views[n].anchors (s.lists[n].edits ++ [e])).length] := by
  have hlist : (joined s n e).lists[n].edits = s.lists[n].edits ++ [e] := by
    simp only [joined, Fin.getElem_fin, Vector.getElem_set_self]
  have heq : (s.setList n { s.lists[n] with edits := s.lists[n].edits ++ [e] }).takePending e.handle.index =
      joined s n e := rfl
  unfold State.acceptEdit
  rw [heq]
  simp only [State.projected, hlist, streamByte_eq hb, List.length_append, List.length_cons, List.length_nil]
  rfl

end Edits

/-- Settles O26: each accepted edit joins its list. -/
theorem acceptedEditJoinsList : Obligations.AcceptedEditJoinsList := by
  unfold Obligations.AcceptedEditJoinsList
  intro s tag b h k p n i c hidle hb hv ht hl hn after data named
  have hc : ∀ {len}, (taken s len).checkEdit b h = .ok (n, c, i) := checkEdit_ok hb hv ht hl (checkHandle_ok hn)
  refine ⟨?_, ?_⟩
  · intro pr hst hd hp hg hf hnot
    have hok := reqAttach_ok (tag := tag) (k := k) (p := p) (hc (len := 10)) hst hd ((fits_iff hp).2 ⟨hg, hf⟩) hnot
    exact (next_onRequest hidle 10 _).trans (congrArg _ (hok.trans (acceptEdit_eq _ _ _ hb _)))
  · intro hnamed
    refine ⟨?_, ?_⟩
    · have hok := reqDetach_ok (tag := tag) (hc (len := 6)) hnamed
      exact (next_onRequest hidle 6 _).trans (congrArg _ (hok.trans (acceptEdit_eq _ _ _ hb _)))
    · have hok := reqMove_ok (tag := tag) (k := k) (p := p) (hc (len := 10)) hnamed
      exact (next_onRequest hidle 10 _).trans (congrArg _ (hok.trans (acceptEdit_eq _ _ _ hb _)))

/-- Settles O27: the shared checks in order, then those of each kind. -/
theorem editsRefusedInOrder : Obligations.EditsRefusedInOrder := by
  unfold Obligations.EditsRefusedInOrder
  intro s tag b h k p hidle
  refine ⟨?_, ?_⟩
  · intro req len code hreq
    refine ⟨?_, ?_⟩
    · intro hb
      exact edit_refused hidle hreq (checkEdit_range hb)
    · intro n hb
      refine ⟨?_, ?_⟩
      · intro hv
        exact edit_refused hidle hreq (checkEdit_unconfigured hb hv)
      · intro c hv
        refine ⟨?_, ?_, ?_⟩
        · intro t ht
          exact edit_refused hidle hreq (checkEdit_armed hb hv ht)
        · intro ht hl
          exact edit_refused hidle hreq (checkEdit_listFull hb hv ht hl)
        · intro r ht hl hr
          exact edit_refused hidle hreq (checkEdit_handle hb hv ht hl (checkHandle_error hr))
  · intro n i c hb hv ht hl hn
    have hc : ∀ {len}, (taken s len).checkEdit b h = .ok (n, c, i) := checkEdit_ok hb hv ht hl (checkHandle_ok hn)
    refine ⟨?_, ?_, ?_⟩
    · intro h1 h2
      exact (next_onRequest hidle 10 _).trans (congrArg _ (reqAttach_state hc h1 h2))
    · intro hst
      refine ⟨?_, ?_⟩
      · intro hd
        exact (next_onRequest hidle 10 _).trans (congrArg _ (reqAttach_damaged hc hst hd))
      · intro pr hd hp
        refine ⟨?_, ?_⟩
        · intro hdiff
          have hf : s.entries[i].fits c = false := by
            rw [← Bool.not_eq_true, fits_iff hp]
            tauto
          exact (next_onRequest hidle 10 _).trans (congrArg _ (reqAttach_geometry hc hst hd hf))
        · intro hg hf hnamed
          exact (next_onRequest hidle 10 _).trans
            (congrArg _ (reqAttach_duplicate hc hst hd ((fits_iff hp).2 ⟨hg, hf⟩) hnamed))
    · intro hnot
      exact ⟨(next_onRequest hidle 6 _).trans (congrArg _ (reqDetach_notMember hc hnot)),
        (next_onRequest hidle 10 _).trans (congrArg _ (reqMove_notMember hc hnot))⟩

end Sys2Proof.ProfileTable

/-! PROOFS. Lookup references taken and released, and a LOOKUP accepted on a listening port. -/

namespace Sys2Proof.ProfileTable

open Sys2Proof Sys2Proof.Machine Sys2Proof.Safety

/-! ### References released (R18) -/

/-- The release of one lookup reference frees entry i: it is DRAINING and holds no second one. -/
abbrev Drains (s : State) (i : EntryIndex) : Prop := s.entries[i].state = .draining ∧ s.entries[i].lookupRefs ≤ 1

theorem releaseLookupRef_drains {s : State} {i : EntryIndex} (h : Drains s i) :
    s.releaseLookupRef i = s.freeEntry i := by
  unfold State.releaseLookupRef
  rw [if_pos ⟨h.1, Nat.sub_eq_zero_of_le h.2⟩]

theorem releaseLookupRef_keeps {s : State} {i : EntryIndex} (h : ¬ Drains s i) :
    s.releaseLookupRef i = s.setEntry i { s.entries[i] with lookupRefs := s.entries[i].lookupRefs - 1 } := by
  unfold State.releaseLookupRef
  rw [if_neg]
  rintro ⟨h1, h2⟩
  exact h ⟨h1, Nat.le_of_sub_eq_zero h2⟩

/-- A freed entry, and the entries that a freeing leaves. -/
theorem freeEntry_same (s : State) (i : EntryIndex) : (s.freeEntry i).entries[i] = Entry.freed s.entries[i].revision := by
  unfold State.freeEntry
  rw [setEntry_get_same]

theorem freeEntry_other (s : State) (i j : EntryIndex) (h : j ≠ i) : (s.freeEntry i).entries[j] = s.entries[j] := by
  unfold State.freeEntry
  rw [setEntry_get_other _ _ _ _ h]

theorem releaseLookupRef_other (s : State) (i j : EntryIndex) (h : j ≠ i) :
    (s.releaseLookupRef i).entries[j] = s.entries[j] := by
  by_cases hd : Drains s i
  · rw [releaseLookupRef_drains hd, freeEntry_other s i j h]
  · rw [releaseLookupRef_keeps hd, setEntry_get_other _ _ _ _ h]

/-- What the release of one reference on each entry of a list leaves of entry i. -/
def Released (s t : State) (l : List EntryIndex) (i : EntryIndex) : Prop :=
  (i ∈ l → Drains s i → t.entries[i] = Entry.freed s.entries[i].revision) ∧
  (i ∈ l → ¬ Drains s i → t.entries[i] = { s.entries[i] with lookupRefs := s.entries[i].lookupRefs - 1 }) ∧
  (i ∉ l → t.entries[i] = s.entries[i])

/-- The references on distinct entries released one after another, entry by entry. -/
theorem foldl_releaseLookupRef_entries (l : List EntryIndex) (s : State) (hl : l.Nodup) (i : EntryIndex) :
    Released s (l.foldl State.releaseLookupRef s) l i := by
  induction l generalizing s with
  | nil => simp [Released]
  | cons a l ih =>
    obtain ⟨ha, hl⟩ := List.nodup_cons.1 hl
    obtain ⟨ih1, ih2, ih3⟩ := ih (s.releaseLookupRef a) hl
    rw [List.foldl_cons]
    by_cases hi : i = a
    · subst hi
      have hkeep := ih3 ha
      refine ⟨?_, ?_, ?_⟩
      · intro _ hd
        rw [hkeep, releaseLookupRef_drains hd, freeEntry_same]
      · intro _ hd
        rw [hkeep, releaseLookupRef_keeps hd, setEntry_get_same]
      · intro hn
        exact absurd (List.mem_cons_self) hn
    · have he := releaseLookupRef_other s a i hi
      have hd : Drains (s.releaseLookupRef a) i ↔ Drains s i := by
        unfold Drains
        rw [he]
      rw [he] at ih1 ih2 ih3
      rw [hd] at ih1 ih2
      unfold Released
      simp only [List.mem_cons, hi, false_or]
      exact ⟨ih1, ih2, ih3⟩

/-- The pages handed back by the references released one after another: those of each entry drained, in order (R29). -/
theorem foldl_releaseLookupRef_freePages (l : List EntryIndex) (s : State) (hl : l.Nodup) :
    (l.foldl State.releaseLookupRef s).freePages =
      s.freePages ++ (l.filter (fun i => Drains s i)).flatMap (fun i => s.entries[i].pages) := by
  induction l generalizing s with
  | nil => simp
  | cons a l ih =>
    obtain ⟨ha, hl⟩ := List.nodup_cons.1 hl
    have he : ∀ i ∈ l, (s.releaseLookupRef a).entries[i] = s.entries[i] := fun i hi =>
      releaseLookupRef_other s a i (fun e => ha (e ▸ hi))
    have hfilter : l.filter (fun i => Drains (s.releaseLookupRef a) i) = l.filter (fun i => Drains s i) :=
      List.filter_congr (fun i hi => by simp only [Drains, he i hi])
    have hpages : (l.filter (fun i => Drains s i)).flatMap (fun i => (s.releaseLookupRef a).entries[i].pages) =
        (l.filter (fun i => Drains s i)).flatMap (fun i => s.entries[i].pages) :=
      List.flatMap_congr (fun i hi => by rw [he i (List.mem_filter.1 hi).1])
    rw [List.foldl_cons, ih _ hl, hfilter, hpages]
    by_cases hd : Drains s a
    · rw [releaseLookupRef_drains hd, List.filter_cons, if_pos (decide_eq_true hd), List.flatMap_cons,
        ← List.append_assoc]
      rfl
    · rw [releaseLookupRef_keeps hd, List.filter_cons, if_neg (mt of_decide_eq_true hd)]
      rfl

/-- Settles O39: the release of each source, entry by entry and page list by page list. -/
theorem releaseFreesDrainedEntries : Obligations.ReleaseFreesDrainedEntries := by
  unfold Obligations.ReleaseFreesDrainedEntries
  intro s sel hsel freed
  refine ⟨releaseRefs_frame s sel, foldl_releaseLookupRef_freePages sel.sources s hsel, ?_⟩
  intro i
  exact foldl_releaseLookupRef_entries sel.sources s hsel i

/-! ### References taken (R17) -/

/-- Taking references writes entries and nothing else. -/
theorem foldl_takeLookupRef_frame (l : List EntryIndex) (s : State) :
    l.foldl State.takeLookupRef s = { s with entries := (l.foldl State.takeLookupRef s).entries } := by
  induction l generalizing s with
  | nil => rfl
  | cons a l ih =>
    rw [List.foldl_cons, ih]
    rfl

/-- Each entry takes as many references as the list names it. -/
theorem foldl_takeLookupRef_entries (l : List EntryIndex) (s : State) (i : EntryIndex) :
    (l.foldl State.takeLookupRef s).entries[i] =
      { s.entries[i] with lookupRefs := s.entries[i].lookupRefs + l.countP (fun j => j = i) } := by
  induction l generalizing s with
  | nil => rfl
  | cons a l ih =>
    rw [List.foldl_cons, ih, List.countP_cons]
    by_cases ha : a = i
    · subst ha
      rw [State.takeLookupRef, setEntry_get_same]
      simp [Nat.add_assoc, Nat.add_comm 1]
    · rw [State.takeLookupRef, setEntry_get_other _ _ _ _ (Ne.symm ha)]
      simp [ha]

theorem takeRefs_frame (s : State) (sel : Selection) : s.takeRefs sel = { s with entries := (s.takeRefs sel).entries } :=
  foldl_takeLookupRef_frame sel.sources s

theorem takeRefs_entries (s : State) (sel : Selection) (i : EntryIndex) :
    (s.takeRefs sel).entries[i] =
      { s.entries[i] with lookupRefs := s.entries[i].lookupRefs + sel.sources.countP (fun j => j = i) } :=
  foldl_takeLookupRef_entries sel.sources s i

/-! ### A whole message on a lane that waits for one (R114, R116, R182) -/

/-- Port p with its lane's framing replaced. -/
def withFraming (s : State) (p : Stream) (f : Framing) : State := s.modPort p (fun x => { x with framing := f })

@[simp] theorem withFraming_port (s : State) (p : Stream) (f : Framing) :
    (withFraming s p f).ports[p] = { s.ports[p] with framing := f } := by
  unfold withFraming State.modPort
  rw [setPort_get_same]

theorem withFraming_withFraming (s : State) (p : Stream) (f g : Framing) :
    withFraming (withFraming s p f) p g = withFraming s p g := by
  have h := withFraming_port s p f
  unfold withFraming State.modPort at *
  rw [h, setPort_setPort]

theorem withFraming_self {s : State} {p : Stream} {f : Framing} (h : s.ports[p].framing = f) : withFraming s p f = s := by
  subst h
  exact setPort_self s p

/-- The bytes that complete a message begun on the lane. -/
theorem receive_inside (rest : List Byte) (s : State) (p : Stream) (k : Byte) (bs : List Byte) (n : Nat)
    (hk : messageLength k = some n) (hrest : rest ≠ []) (hn : (k :: bs ++ rest).length = n) :
    (withFraming s p (.inside (k :: bs))).receive p rest =
      (withFraming s p .waiting).judgeMessage p (k :: bs ++ rest) := by
  induction rest generalizing bs with
  | nil => exact absurd rfl hrest
  | cons b rest ih =>
    have hstep : (withFraming s p (.inside (k :: bs))).receiveByte p b =
        if (k :: bs ++ [b]).length < n then withFraming s p (.inside (k :: bs ++ [b]))
        else (withFraming s p .waiting).judgeMessage p (k :: bs ++ [b]) := by
      have h1 := withFraming_withFraming s p (.inside (k :: bs)) (.inside (k :: bs ++ [b]))
      have h2 := withFraming_withFraming s p (.inside (k :: bs)) .waiting
      rw [← h1, ← h2]
      unfold State.receiveByte
      simp only [withFraming_port, List.cons_append, List.head?_cons, Option.bind_some, hk]
      rfl
    cases rest with
    | nil =>
      rw [if_neg (by rw [hn]; exact lt_irrefl n)] at hstep
      exact hstep
    | cons b' rest =>
      have hlt : (k :: bs ++ [b]).length < n := by
        rw [← hn]
        simp only [List.length_append, List.length_cons, List.length_nil]
        omega
      rw [if_pos hlt] at hstep
      have hrec := ih (bs ++ [b]) (by simp) (by simpa using hn)
      have hsplit : (withFraming s p (.inside (k :: bs))).receive p (b :: b' :: rest) =
          ((withFraming s p (.inside (k :: bs))).receiveByte p b).receive p (b' :: rest) := rfl
      rw [hsplit, hstep]
      simpa using hrec

/-- A message of the length its kind byte calls for, sent to a lane that waits for a kind byte, is judged as a whole. -/
theorem receive_framed {s : State} {p : Stream} {k : Byte} {rest : List Byte} {n : Nat}
    (hw : s.ports[p].framing = .waiting) (hk : messageLength k = some n) (hrest : rest ≠ [])
    (hn : (k :: rest).length = n) : s.receive p (k :: rest) = s.judgeMessage p (k :: rest) := by
  have h0 : k ≠ 0 := by
    rintro rfl
    cases hk
  have hfirst : s.receiveByte p k = withFraming s p (.inside [k]) := by
    unfold State.receiveByte
    simp only [hw, h0, ↓reduceIte, hk]
    rfl
  have hsplit : s.receive p (k :: rest) = (s.receiveByte p k).receive p rest := rfl
  rw [hsplit, hfirst, receive_inside rest s p k [] n hk hrest (by simpa using hn), withFraming_self hw]
  rfl

/-- An incoming message's bytes spell that message (R115, R182). -/
theorem parseMessage_encode (m : LinkMessage) : parseMessage m.encode = some m := by
  have hlast : m.encode.getLast? = some (crc8 m.encode.dropLast) := by
    simp [LinkMessage.encode]
  unfold parseMessage
  rw [if_pos hlast]
  cases m with
  | lookup tag key first count =>
    simp only [LinkMessage.encode, LinkMessage.body, wordBytes, List.cons_append, List.nil_append, wordOf_bytes]
    rfl
  | credit n => rfl
  | cancel tag => rfl
  | reset => rfl

/-- A message with its fields in range, sent whole to a port that listens, is taken. -/
theorem receive_encode {s : State} {p : Stream} {m : LinkMessage} (hs : Listening s p) (hm : m.fieldsOk = true) :
    s.receive p m.encode = s.takeMessage p m := by
  have hjudge : s.judgeMessage p m.encode = s.takeMessage p m := by
    unfold State.judgeMessage
    rw [parseMessage_encode]
    simp only [hm, ↓reduceIte]
    exact arrive_listening m hs
  rw [← hjudge]
  cases m <;> exact receive_framed hs.1 rfl (by simp) rfl

/-! ### LOOKUP accepted (R62, R120, R122, R148) -/

/-- The record of a lookup accepted on port p, with what it keeps (R62). -/
def acceptedLookup (s : State) (p : Stream) (c : ViewConfig) (tag : Byte) (key : Word) (first count : Nat) : Lookup :=
  { tag := tag, selection := s.select p key, geometry := c.geometry, format := c.format,
    generation := s.views[p].generation, counter := s.points[p].counter,
    rowsOwed := rowRun c.geometry.rows first count, granted := none, cancelling := false, resetting := false,
    rowsSent := 0 }

/-- A LOOKUP that passes every check of R121 is accepted. -/
theorem takeLookup_accepted {s : State} {p : Stream} {tag : Byte} {key : Word} {first count : Nat} {c : ViewConfig}
    (ha : s.ports[p].active = true) (he : s.ports[p].enabled = true) (ht : ∀ l ∈ s.ports[p].queue, l.tag ≠ tag)
    (hq : s.ports[p].queue.length < 2) (hv : s.views[p].config = some c)
    (hr : rowsWithin c.geometry.rows first count = true) :
    s.takeLookup p tag key first count = s.acceptLookup p c tag key first count := by
  have hany : s.ports[p].queue.any (fun l => l.tag = tag) = false := by simpa using ht
  unfold State.takeLookup
  simp only [ha, he, hany, Nat.not_le.2 hq, hv, hr, Bool.not_true, Bool.false_eq_true, ↓reduceIte]

/-- Accepted behind another lookup, a lookup joins the queue and takes its references. -/
theorem acceptLookup_waiting {s : State} {p : Stream} {c : ViewConfig} {tag : Byte} {key : Word} {first count : Nat}
    (hq : s.ports[p].queue ≠ []) :
    s.acceptLookup p c tag key first count = (s.takeRefs (s.select p key)).setPort p
      { s.ports[p] with queue := s.ports[p].queue ++ [acceptedLookup s p c tag key first count] } := by
  have he : s.ports[p].queue.isEmpty = false := by simpa using hq
  have hports : (s.takeRefs (s.select p key)).ports = s.ports := by rw [takeRefs_frame]
  unfold State.acceptLookup
  simp only [he, Bool.false_eq_true, ↓reduceIte]
  unfold State.modPort
  rw [hports]
  rfl

/-- Accepted into an empty queue, a lookup becomes head, with its HEADER and the timer judged (R124, R126). -/
theorem acceptLookup_head {s : State} {p : Stream} {c : ViewConfig} {tag : Byte} {key : Word} {first count : Nat}
    (hq : s.ports[p].queue = []) :
    s.acceptLookup p c tag key first count = (s.takeRefs (s.select p key)).setPort p (Port.judgeTimer
      { s.ports[p] with
          queue := [acceptedLookup s p c tag key first count]
          out := s.ports[p].out ++ [.header ((s.takeRefs (s.select p key)).headerOf p
            (acceptedLookup s p c tag key first count))] }) := by
  have hports : (s.takeRefs (s.select p key)).ports = s.ports := by rw [takeRefs_frame]
  unfold State.acceptLookup
  simp only [hq, List.isEmpty_nil, ↓reduceIte, State.modPort, State.send, setPort_get_same, setPort_setPort, hports]
  rfl

/-- The judged timer of a port whose one lookup is owed rows and has none granted. -/
theorem judgeTimer_head {x : Port} {l : Lookup} (hq : x.queue = [l]) (ho : l.rowsOwed ≠ []) (hg : l.granted = none)
    (hc : l.cancelling = false) :
    x.judgeTimer = { x with timer := if x.credits = 0 ∧ x.stallLimit.toNat ≠ 0 then .running 0 x.stallLimit.toNat
                                     else x.timer } := by
  cases x
  subst hq
  unfold Port.judgeTimer
  simp only [ho, hg, hc, ne_eq, not_false_eq_true, true_and]
  split <;> rfl

/-- What a header says of an anchor whose entry has a profile. -/
theorem anchorItem_eq {s : State} {h : Handle} (hp : s.entries[h.index].profile.isSome) :
    some (s.anchorItem h) = (s.entries[h.index].profile).map
      (fun pr => ({ handle := h, label := pr.label, origin := pr.origin } : AnchorItem)) := by
  obtain ⟨pr, hpr⟩ := Option.isSome_iff_exists.1 hp
  unfold State.anchorItem
  simp only [hpr, Option.map_some]

/-- References taken do not change what a header says of an anchor. -/
theorem anchorItem_takeRefs (s : State) (sel : Selection) (h : Handle) :
    (s.takeRefs sel).anchorItem h = s.anchorItem h := by
  unfold State.anchorItem
  rw [takeRefs_entries]

/-- Settles O42: the message taken, then the queue empty or not. -/
theorem lookupAcceptedKeepsItsView : Obligations.LookupAcceptedKeepsItsView := by
  unfold Obligations.LookupAcceptedKeepsItsView
  intro s p tag key first count c hlisten htag hactive henabled htags hroom hview hfirst hcount rows sel item l
  have hwithin : rowsWithin c.geometry.rows first.toNat count.toNat = true := by
    simpa [rowsWithin] using ⟨hfirst, hcount⟩
  have hrows : rows ≠ 0 := by
    simp only [rows]
    split <;> omega
  have howed : l.rowsOwed ≠ [] := by simpa [l] using hrows
  have hrun : exec (.lookup p tag key first count) s = .next (s.acceptLookup p c tag key first.toNat count.toNat) := by
    have hreceive := receive_encode (m := .lookup tag key first count) hlisten (by simpa [LinkMessage.fieldsOk] using htag)
    exact congrArg _ (hreceive.trans (takeLookup_accepted hactive henabled htags hroom hview hwithin))
  have hl : acceptedLookup s p c tag key first.toNat count.toNat = l := rfl
  have hframe := takeRefs_frame s sel
  have hitem : ∀ h : Handle, s.entries[h.index].profile.isSome → some ((s.takeRefs sel).anchorItem h) = item h :=
    fun h hp => (congrArg some (anchorItem_takeRefs s sel h)).trans (anchorItem_eq hp)
  refine ⟨_, hrun, ?_, ?_, ?_, ?_⟩
  · by_cases hq : s.ports[p].queue = []
    · rw [acceptLookup_head hq, setPort_get_same]
      show (s.takeRefs sel).setPort p _ = _
      rw [hframe]
      rfl
    · rw [acceptLookup_waiting hq, setPort_get_same]
      show (s.takeRefs sel).setPort p _ = _
      rw [hframe]
      rfl
  · intro i
    have hentries : (s.acceptLookup p c tag key first.toNat count.toNat).entries = (s.takeRefs sel).entries := by
      by_cases hq : s.ports[p].queue = []
      · rw [acceptLookup_head hq]
        rfl
      · rw [acceptLookup_waiting hq]
        rfl
    rw [hentries, takeRefs_entries]
  · intro hq
    rw [acceptLookup_waiting hq, setPort_get_same, hl]
  · intro hq
    refine ⟨(s.takeRefs sel).headerOf p l, ?_, rfl, rfl, rfl, rfl, rfl, rfl, rfl, ?_, ?_, rfl, ?_, ?_, ?_, ?_⟩
    · rw [acceptLookup_head hq, setPort_get_same, judgeTimer_head rfl howed rfl rfl, hl]
    · show (List.range' first.toNat rows).headD 0 = _
      cases hr : rows with
      | zero => exact absurd hr hrows
      | succ n => rfl
    · show (List.range' first.toNat rows).length = _
      exact List.length_range'
    · intro h hA hp
      show sel.anchorA.map _ = _
      rw [hA, ← hitem h hp]
      rfl
    · intro h hB hp
      show sel.anchorB.map _ = _
      rw [hB, ← hitem h hp]
      rfl
    · intro hA
      show sel.anchorA.map _ = _
      rw [hA]
      rfl
    · intro hB
      show sel.anchorB.map _ = _
      rw [hB]
      rfl

end Sys2Proof.ProfileTable

/-! PROOFS. Pending lists: WITHDRAW and DISCARD over a mask, and the apply of a list entry by entry. -/

namespace Sys2Proof.ProfileTable

open Sys2Proof Sys2Proof.Machine Sys2Proof.Safety

/-! ### Stream masks -/

theorem mem_allStreams (n : Stream) : n ∈ allStreams := by
  revert n
  decide

theorem nodup_allStreams : allStreams.Nodup := by decide

theorem mem_maskStreams {m : StreamMask} {n : Stream} : n ∈ maskStreams m ↔ inMask m n = true := by
  simp [maskStreams, mem_allStreams]

theorem nodup_maskStreams (m : StreamMask) : (maskStreams m).Nodup := nodup_allStreams.filter _

theorem maskStreams_streamBit (n : Stream) : maskStreams (streamBit n) = [n] := by
  revert n
  decide

theorem getLsbD_streamBit (n k : Stream) : (streamBit n).getLsbD k = decide (n = k) := by
  revert n k
  decide

theorem inMask_streamBit (n k : Stream) : inMask (streamBit n) k = decide (n = k) := getLsbD_streamBit n k

theorem inMask_addToMask (m : StreamMask) (n k : Stream) : inMask (addToMask m n) k = (inMask m k || decide (n = k)) := by
  simp only [inMask, addToMask, BitVec.getLsbD_or, getLsbD_streamBit]

theorem inMask_removeFromMask (m : StreamMask) (n k : Stream) :
    inMask (removeFromMask m n) k = (inMask m k && !decide (n = k)) := by
  have hk : decide (k.val < 4) = true := decide_eq_true k.isLt
  simp only [inMask, removeFromMask, BitVec.getLsbD_and, BitVec.getLsbD_not, getLsbD_streamBit, hk, Bool.true_and]

theorem inMask_zero (n : Stream) : inMask 0 n = false := by simp [inMask]

/-- A mask is empty when it names no stream. -/
theorem mask_eq_zero_iff {m : StreamMask} : m = 0 ↔ ∀ n : Stream, inMask m n = false := by
  constructor
  · rintro rfl n
    exact inMask_zero n
  · intro h
    apply BitVec.eq_of_getLsbD_eq
    intro i hi
    have := h ⟨i, hi⟩
    simpa [inMask] using this

/-- The mask of a list of streams names exactly those streams. -/
theorem inMask_maskOfStreams (l : List Stream) (n : Stream) : inMask (maskOfStreams l) n = decide (n ∈ l) := by
  have hfold : ∀ (l : List Stream) (m : StreamMask),
      inMask (l.foldl (fun m k => m ||| streamBit k) m) n = (inMask m n || decide (n ∈ l)) := by
    intro l
    induction l with
    | nil => simp
    | cons k l ih =>
      intro m
      have hadd : inMask (m ||| streamBit k) n = (inMask m n || decide (k = n)) := inMask_addToMask m k n
      rw [List.foldl_cons, ih, hadd]
      simp only [List.mem_cons, Bool.decide_or, Bool.or_assoc, eq_comm]
  unfold maskOfStreams
  rw [hfold]
  simp [inMask]

/-! ### WITHDRAW (R85) -/

/-- Lists disarmed one after another, and nothing else. -/
theorem foldl_disarm_frame (l : List Stream) (s : State) :
    l.foldl State.disarm s = { s with lists := (l.foldl State.disarm s).lists } := by
  induction l generalizing s with
  | nil => rfl
  | cons n l ih =>
    rw [List.foldl_cons, ih]
    rfl

theorem foldl_disarm_lists (l : List Stream) (s : State) (n : Stream) :
    (l.foldl State.disarm s).lists[n] = if n ∈ l then { s.lists[n] with target := none } else s.lists[n] := by
  induction l generalizing s with
  | nil => rfl
  | cons k l ih =>
    rw [List.foldl_cons, ih]
    by_cases hk : n = k
    · subst hk
      simp only [State.disarm, setList_get_same, List.mem_cons, true_or, ↓reduceIte, ite_self]
    · simp only [State.disarm, setList_get_other _ _ _ _ hk, List.mem_cons, hk, false_or]

theorem mem_armedStreams {s : State} {m : StreamMask} {n : Stream} :
    n ∈ s.armedStreams m ↔ inMask m n = true ∧ s.lists[n].target.isSome = true := by
  unfold State.armedStreams
  rw [List.mem_filter, mem_maskStreams]

/-- Disarming the armed lists of a mask disarms every list of it. -/
theorem disarm_armedStreams_lists (s : State) (m : StreamMask) (n : Stream) :
    ((s.armedStreams m).foldl State.disarm s).lists[n] =
      if inMask m n then { s.lists[n] with target := none } else s.lists[n] := by
  rw [foldl_disarm_lists]
  simp only [mem_armedStreams]
  by_cases hm : inMask m n = true
  · cases ht : s.lists[n].target with
    | none => simp [hm, ← ht]
    | some T => simp [hm]
  · simp [hm]

theorem reqWithdraw_range {s : State} {tag m : Byte} (h : 16 ≤ m.toNat) :
    reqWithdraw tag m s = s.respond tag 0x26 .range [] := by
  unfold reqWithdraw
  rw [maskOf_none h]

theorem reqWithdraw_ok {s : State} {tag m : Byte} {mask : StreamMask} (h : MaskByte m mask) :
    reqWithdraw tag m s = ((s.armedStreams mask).foldl State.disarm s).respond tag 0x26 .ok
      [(maskOfStreams (s.armedStreams mask)).setWidth 8] := by
  unfold reqWithdraw
  rw [maskOf_some h, ← maskByte_setWidth]

/-! ### DISCARD (R15, R87) -/

/-- Pending references released write entries and nothing else. -/
theorem foldl_releasePending_frame (es : List Edit) (s : State) :
    es.foldl (fun s e => s.releasePending e.handle.index) s =
      { s with entries := (es.foldl (fun s e => s.releasePending e.handle.index) s).entries } := by
  induction es generalizing s with
  | nil => rfl
  | cons e es ih =>
    rw [List.foldl_cons, ih]
    rfl

/-- The number of edits of a list that name entry i. -/
def naming (es : List Edit) (i : EntryIndex) : Nat := es.countP (fun e => e.handle.index = i)

theorem naming_cons (e : Edit) (es : List Edit) (i : EntryIndex) :
    naming (e :: es) i = naming es i + if e.handle.index = i then 1 else 0 := by
  simp [naming, List.countP_cons]

theorem naming_append (es fs : List Edit) (i : EntryIndex) : naming (es ++ fs) i = naming es i + naming fs i :=
  List.countP_append

theorem naming_pos {es : List Edit} {i : EntryIndex} : 0 < naming es i ↔ ∃ e ∈ es, e.handle.index = i := by
  simp [naming, List.countP_pos_iff]

theorem naming_eq_zero {es : List Edit} {i : EntryIndex} : naming es i = 0 ↔ ∀ e ∈ es, e.handle.index ≠ i := by
  simp [naming, List.countP_eq_zero]

/-- Each entry loses as many pending references as the edits name it. -/
theorem foldl_releasePending_entries (es : List Edit) (s : State) (i : EntryIndex) :
    (es.foldl (fun s e => s.releasePending e.handle.index) s).entries[i] =
      { s.entries[i] with pendingRefs := s.entries[i].pendingRefs - naming es i } := by
  induction es generalizing s with
  | nil => rfl
  | cons e es ih =>
    rw [List.foldl_cons, ih, naming_cons]
    by_cases he : e.handle.index = i
    · subst he
      rw [State.releasePending, setEntry_get_same]
      simp only [↓reduceIte, Nat.sub_sub, Nat.add_comm 1]
    · rw [State.releasePending, setEntry_get_other _ _ _ _ (Ne.symm he)]
      simp only [he, ↓reduceIte, Nat.add_zero]

/-- Emptying a list writes lists and entries, and nothing else. -/
theorem emptyList_frame (s : State) (n : Stream) :
    s.emptyList n = { s with lists := (s.emptyList n).lists, entries := (s.emptyList n).entries } := by
  unfold State.emptyList
  rw [foldl_releasePending_frame]
  rfl

theorem emptyList_lists (s : State) (n k : Stream) :
    (s.emptyList n).lists[k] = if k = n then { s.lists[k] with edits := [] } else s.lists[k] := by
  have hl : (s.lists[n].edits.foldl (fun s e => s.releasePending e.handle.index) s).lists = s.lists := by
    rw [foldl_releasePending_frame]
  unfold State.emptyList
  by_cases hk : k = n
  · subst hk
    rw [if_pos rfl, setList_get_same]
  · rw [if_neg hk, setList_get_other _ _ _ _ hk, hl]

theorem emptyList_entries (s : State) (n : Stream) (i : EntryIndex) :
    (s.emptyList n).entries[i] =
      { s.entries[i] with pendingRefs := s.entries[i].pendingRefs - naming s.lists[n].edits i } :=
  foldl_releasePending_entries s.lists[n].edits s i

theorem foldl_emptyList_frame (l : List Stream) (s : State) :
    l.foldl State.emptyList s =
      { s with lists := (l.foldl State.emptyList s).lists, entries := (l.foldl State.emptyList s).entries } := by
  induction l generalizing s with
  | nil => rfl
  | cons n l ih =>
    rw [List.foldl_cons, ih, emptyList_frame s n]

theorem foldl_emptyList_lists (l : List Stream) (s : State) (n : Stream) :
    (l.foldl State.emptyList s).lists[n] = if n ∈ l then { s.lists[n] with edits := [] } else s.lists[n] := by
  induction l generalizing s with
  | nil => rfl
  | cons k l ih =>
    rw [List.foldl_cons, ih, emptyList_lists]
    by_cases hk : n = k
    · subst hk
      simp
    · simp [hk]

/-- Emptied one after another, distinct lists release the references of all their edits. -/
theorem foldl_emptyList_entries (l : List Stream) (s : State) (hl : l.Nodup) (i : EntryIndex) :
    (l.foldl State.emptyList s).entries[i] =
      { s.entries[i] with
          pendingRefs := s.entries[i].pendingRefs - naming (l.flatMap (fun n => s.lists[n].edits)) i } := by
  induction l generalizing s with
  | nil => rfl
  | cons k l ih =>
    obtain ⟨hk, hl⟩ := List.nodup_cons.1 hl
    have hrest : l.flatMap (fun n => (s.emptyList k).lists[n].edits) = l.flatMap (fun n => s.lists[n].edits) := by
      apply List.flatMap_congr
      intro n hn
      have hne : n ≠ k := fun e => hk (e ▸ hn)
      rw [emptyList_lists, if_neg hne]
    rw [List.foldl_cons, ih _ hl, emptyList_entries, List.flatMap_cons, naming_append, hrest]
    simp only [Nat.sub_sub]

theorem mem_discardable {s : State} {m : StreamMask} {n : Stream} :
    n ∈ s.discardable m ↔ inMask m n = true ∧ s.lists[n].target = none ∧ s.lists[n].edits ≠ [] := by
  unfold State.discardable
  rw [List.mem_filter, mem_maskStreams]
  simp

theorem nodup_discardable (s : State) (m : StreamMask) : (s.discardable m).Nodup := (nodup_maskStreams m).filter _

/-- The edits that a DISCARD of a mask removes from stream n's list (R87). -/
def discarded (s : State) (m : StreamMask) (n : Stream) : List Edit :=
  if inMask m n ∧ s.lists[n].target = none then s.lists[n].edits else []

/-- The lists that a DISCARD empties hold the edits that it removes. -/
theorem flatMap_discardable (s : State) (m : StreamMask) :
    (s.discardable m).flatMap (fun n => s.lists[n].edits) =
      discarded s m 0 ++ discarded s m 1 ++ discarded s m 2 ++ discarded s m 3 := by
  have hfilter : ∀ (P : Stream → Bool) (l : List Stream),
      (∀ n, P n = true ↔ inMask m n = true ∧ s.lists[n].target = none ∧ s.lists[n].edits ≠ []) →
      (l.filter P).flatMap (fun n => s.lists[n].edits) = l.flatMap (discarded s m) := by
    intro P l hP
    induction l with
    | nil => rfl
    | cons n l ih =>
      rw [List.filter_cons, List.flatMap_cons, ← ih, discarded]
      by_cases hn : P n = true
      · obtain ⟨h1, h2, -⟩ := (hP n).1 hn
        rw [if_pos hn, if_pos ⟨h1, h2⟩, List.flatMap_cons]
      · rw [if_neg hn]
        by_cases hd : inMask m n = true ∧ s.lists[n].target = none
        · have hempty : s.lists[n].edits = [] := by
            by_contra hne
            exact hn ((hP n).2 ⟨hd.1, hd.2, hne⟩)
          rw [if_pos hd, hempty, List.nil_append]
        · rw [if_neg hd, List.nil_append]
  have hall : s.discardable m =
      allStreams.filter (fun n => inMask m n && (s.lists[n].target = none && s.lists[n].edits ≠ [])) := by
    unfold State.discardable maskStreams
    rw [List.filter_filter]
    congr 1
    funext n
    exact Bool.and_comm _ _
  rw [hall, hfilter _ _ (by simp)]
  simp [allStreams]

theorem reqDiscard_range {s : State} {tag m : Byte} (h : 16 ≤ m.toNat) :
    reqDiscard tag m s = s.respond tag 0x27 .range [] := by
  unfold reqDiscard
  rw [maskOf_none h]

theorem reqDiscard_ok {s : State} {tag m : Byte} {mask : StreamMask} (h : MaskByte m mask) :
    reqDiscard tag m s = ((s.discardable mask).foldl State.emptyList s).respond tag 0x27 .ok
      [(maskOfStreams (s.discardable mask)).setWidth 8,
       byteOf ((discarded s mask 0).length + (discarded s mask 1).length + (discarded s mask 2).length
         + (discarded s mask 3).length),
       (maskOfStreams (s.armedStreams mask)).setWidth 8] := by
  have hsum : ((s.discardable mask).map (fun n => s.lists[n].edits.length)).sum =
      (discarded s mask 0).length + (discarded s mask 1).length + (discarded s mask 2).length
        + (discarded s mask 3).length := by
    rw [← List.length_flatMap, flatMap_discardable]
    simp only [List.length_append]
  unfold reqDiscard
  rw [maskOf_some h]
  simp only [hsum, maskByte_setWidth]

/-- Settles O31: WITHDRAW as the disarming, DISCARD as the emptying, of the lists of a mask. -/
theorem withdrawAndDiscard : Obligations.WithdrawAndDiscard := by
  unfold Obligations.WithdrawAndDiscard
  refine ⟨?_, ?_⟩
  · intro s tag m hidle
    have hrun : exec (.withdraw tag m) s = .next (reqWithdraw tag m (taken s 4)) := next_onRequest hidle 4 _
    rw [hrun]
    refine ⟨fun h => congrArg _ (reqWithdraw_range h), ?_⟩
    intro mask hmask
    refine ⟨_, maskOfStreams (s.armedStreams mask), congrArg _ (reqWithdraw_ok hmask), ?_, ?_, ?_⟩
    · rw [foldl_disarm_frame]
      rfl
    · exact disarm_armedStreams_lists (taken s 4) mask
    · intro n
      rw [inMask_maskOfStreams]
      simp only [mem_armedStreams, Bool.decide_and, Bool.decide_eq_true]
  · intro s tag m hidle
    have hrun : exec (.discard tag m) s = .next (reqDiscard tag m (taken s 4)) := next_onRequest hidle 4 _
    rw [hrun]
    refine ⟨fun h => congrArg _ (reqDiscard_range h), ?_⟩
    intro mask hmask
    refine ⟨reqDiscard tag m (taken s 4), maskOfStreams (s.discardable mask), maskOfStreams (s.armedStreams mask), ?_⟩
    intro gone
    rw [reqDiscard_ok hmask]
    refine ⟨rfl, ?_, ?_, ?_, ?_⟩
    · rw [foldl_emptyList_frame]
      rfl
    · intro n
      rw [respond_lists, foldl_emptyList_lists]
      show (if n ∈ s.discardable mask then { s.lists[n] with edits := [] } else s.lists[n]) = _
      simp only [mem_discardable]
      by_cases hd : inMask mask n = true ∧ s.lists[n].target = none
      · rw [if_pos hd]
        by_cases he : s.lists[n].edits = []
        · rw [if_neg (by tauto), ← he, ← hd.2]
        · rw [if_pos ⟨hd.1, hd.2, he⟩, hd.2]
      · rw [if_neg hd, if_neg (by tauto)]
    · intro n
      rw [inMask_maskOfStreams, inMask_maskOfStreams]
      refine ⟨decide_eq_decide.2 ?_, ?_⟩
      · simp only [mem_discardable, gone]
        split
        · next hd => exact ⟨fun h => h.2.2, fun h => ⟨hd.1, hd.2, h⟩⟩
        · next hd => exact ⟨fun h => absurd ⟨h.1, h.2.1⟩ hd, fun h => absurd rfl h⟩
      · simp only [mem_armedStreams, Bool.decide_and, Bool.decide_eq_true]
    · intro i
      have hentries := foldl_emptyList_entries _ (taken s 4) (nodup_discardable (taken s 4) mask) i
      rw [flatMap_discardable] at hentries
      exact hentries

/-! ### The apply of a list, entry by entry (R15, R16, R80 to R82) -/

/-- An anchor list holds an anchor for entry i. -/
def Holds (as : List Anchor) (i : EntryIndex) : Prop := ∃ a ∈ as, a.handle.index = i

theorem any_eq_decide_holds (as : List Anchor) (i : EntryIndex) :
    as.any (fun a => a.handle.index = i) = true ↔ Holds as i := by
  simp [Holds]

theorem mem_insertAnchor {a b : Anchor} {as : List Anchor} : b ∈ insertAnchor a as ↔ b = a ∨ b ∈ as := by
  induction as with
  | nil => simp [insertAnchor]
  | cons c cs ih =>
    unfold insertAnchor
    split
    · simp only [List.mem_cons, ih]
      tauto
    · simp

theorem mem_removeAnchor {i : EntryIndex} {b : Anchor} {as : List Anchor} :
    b ∈ removeAnchor i as ↔ b ∈ as ∧ b.handle.index ≠ i := by
  simp [removeAnchor]

theorem findAnchor_some {i : EntryIndex} {a : Anchor} {as : List Anchor} (h : findAnchor i as = some a) :
    a ∈ as ∧ a.handle.index = i := by
  unfold findAnchor at h
  exact ⟨List.mem_of_find?_eq_some h, by simpa using List.find?_some h⟩

theorem holds_attach {as : List Anchor} {h : Handle} {k p : Word} {i : EntryIndex} :
    Holds (applyEdit as (.attach h k p)) i ↔ h.index = i ∨ Holds as i := by
  simp [applyEdit, Holds, mem_insertAnchor]

theorem holds_detach {as : List Anchor} {h : Handle} {i : EntryIndex} :
    Holds (applyEdit as (.detach h)) i ↔ h.index ≠ i ∧ Holds as i := by
  simp only [applyEdit, Holds, mem_removeAnchor]
  constructor
  · rintro ⟨a, ⟨ha, hne⟩, rfl⟩
    exact ⟨hne.symm, a, ha, rfl⟩
  · rintro ⟨hne, a, ha, rfl⟩
    exact ⟨a, ⟨ha, hne.symm⟩, rfl⟩

theorem applyEdit_move_some {as : List Anchor} {h : Handle} {k p : Word} {a : Anchor}
    (hf : findAnchor h.index as = some a) :
    applyEdit as (.move h k p) = insertAnchor { a with key := k, plateau := p } (removeAnchor h.index as) := by
  simp only [applyEdit, hf]

theorem applyEdit_move_none {as : List Anchor} {h : Handle} {k p : Word} (hf : findAnchor h.index as = none) :
    applyEdit as (.move h k p) = as := by
  simp only [applyEdit, hf]

theorem holds_move {as : List Anchor} {h : Handle} {k p : Word} {i : EntryIndex} :
    Holds (applyEdit as (.move h k p)) i ↔ Holds as i := by
  cases hf : findAnchor h.index as with
  | none => rw [applyEdit_move_none hf]
  | some a =>
    obtain ⟨ha, hi⟩ := findAnchor_some hf
    rw [applyEdit_move_some hf]
    simp only [Holds, mem_insertAnchor, mem_removeAnchor]
    constructor
    · rintro ⟨b, rfl | ⟨hb, -⟩, rfl⟩
      · exact ⟨a, ha, rfl⟩
      · exact ⟨b, hb, rfl⟩
    · rintro ⟨b, hb, rfl⟩
      by_cases he : b.handle.index = h.index
      · exact ⟨_, Or.inl rfl, hi.trans he.symm⟩
      · exact ⟨b, Or.inr ⟨hb, he⟩, rfl⟩

/-- The membership of entry i after the edits of an applied list of stream n (R16). -/
def settledMembership (n : Stream) (i : EntryIndex) (m : StreamMask) (es : List Edit) : StreamMask :=
  es.foldl (fun m e => if e.handle.index = i then e.membership n m else m) m

theorem settledMembership_cons (n : Stream) (i : EntryIndex) (m : StreamMask) (e : Edit) (es : List Edit) :
    settledMembership n i m (e :: es) =
      settledMembership n i (if e.handle.index = i then e.membership n m else m) es := rfl

theorem settledMembership_unnamed {n : Stream} {i : EntryIndex} {es : List Edit} (m : StreamMask)
    (h : ∀ e ∈ es, e.handle.index ≠ i) : settledMembership n i m es = m := by
  induction es with
  | nil => rfl
  | cons e es ih =>
    rw [settledMembership_cons, if_neg (h e (by simp))]
    exact ih (fun f hf => h f (by simp [hf]))

theorem inMask_membership_other (e : Edit) {n k : Stream} (m : StreamMask) (h : k ≠ n) :
    inMask (e.membership n m) k = inMask m k := by
  cases e with
  | attach _ _ _ =>
    rw [Edit.membership, inMask_addToMask]
    simp [Ne.symm h]
  | detach _ =>
    rw [Edit.membership, inMask_removeFromMask]
    simp [Ne.symm h]
  | move _ _ _ => rfl

/-- An apply leaves an entry's membership of every other stream. -/
theorem inMask_settledMembership_other {n k : Stream} (i : EntryIndex) (es : List Edit) (m : StreamMask) (h : k ≠ n) :
    inMask (settledMembership n i m es) k = inMask m k := by
  induction es generalizing m with
  | nil => rfl
  | cons e es ih =>
    rw [settledMembership_cons, ih]
    split
    · exact inMask_membership_other e m h
    · rfl

/-- One edit takes an entry into the view exactly as it takes the view's stream into the entry's membership (R16). -/
theorem inMask_membership_iff_holds {e : Edit} {n : Stream} {i : EntryIndex} {m : StreamMask} {as : List Anchor}
    (h : inMask m n = true ↔ Holds as i) :
    inMask (if e.handle.index = i then e.membership n m else m) n = true ↔ Holds (applyEdit as e) i := by
  cases e with
  | attach hd k p =>
    rw [holds_attach, ← h]
    by_cases hi : hd.index = i <;> simp [Edit.handle, Edit.membership, hi, inMask_addToMask]
  | detach hd =>
    rw [holds_detach, ← h]
    by_cases hi : hd.index = i <;> simp [Edit.handle, Edit.membership, hi, inMask_removeFromMask]
  | move hd k p =>
    rw [holds_move, ← h]
    simp [Edit.membership]

/-- After an apply an entry is a member exactly where the applied view holds it (R16). -/
theorem inMask_settledMembership_iff_holds {n : Stream} {i : EntryIndex} (es : List Edit) {m : StreamMask}
    {as : List Anchor} (h : inMask m n = true ↔ Holds as i) :
    inMask (settledMembership n i m es) n = true ↔ Holds (applyEdits as es) i := by
  induction es generalizing m as with
  | nil => exact h
  | cons e es ih =>
    rw [settledMembership_cons]
    exact ih (inMask_membership_iff_holds h)

/-- Entry e, of index i, after the edits of an applied list of stream n that name it have been settled. -/
def settled (n : Stream) (i : EntryIndex) (e : Entry) (es : List Edit) : Entry :=
  { e with membership := settledMembership n i e.membership es
           state := stateOfMembership (settledMembership n i e.membership es)
           pendingRefs := e.pendingRefs - naming es i }

theorem settleEdit_other (s : State) (n : Stream) (e : Edit) {i : EntryIndex} (h : e.handle.index ≠ i) :
    (s.settleEdit n e).entries[i] = s.entries[i] := setEntry_get_other _ _ _ _ (Ne.symm h)

theorem settleEdit_same (s : State) (n : Stream) (e : Edit) {i : EntryIndex} (h : e.handle.index = i) :
    (s.settleEdit n e).entries[i] = settled n i s.entries[i] [e] := by
  subst h
  unfold State.settleEdit
  rw [setEntry_get_same]
  simp only [settled, settledMembership, List.foldl_cons, List.foldl_nil, ↓reduceIte, naming_cons]
  rfl

/-- An entry that no edit of the list names is left alone. -/
theorem foldl_settleEdit_unnamed (n : Stream) (es : List Edit) (s : State) {i : EntryIndex}
    (h : ∀ e ∈ es, e.handle.index ≠ i) : (es.foldl (fun s e => s.settleEdit n e) s).entries[i] = s.entries[i] := by
  induction es generalizing s with
  | nil => rfl
  | cons e es ih =>
    rw [List.foldl_cons, ih _ (fun f hf => h f (by simp [hf])), settleEdit_other s n e (h e (by simp))]

/-- An entry that an edit of the list names is settled by all that do. -/
theorem foldl_settleEdit_named (n : Stream) (es : List Edit) (s : State) {i : EntryIndex}
    (h : ∃ e ∈ es, e.handle.index = i) :
    (es.foldl (fun s e => s.settleEdit n e) s).entries[i] = settled n i s.entries[i] es := by
  induction es generalizing s with
  | nil =>
    obtain ⟨e, he, -⟩ := h
    cases he
  | cons e es ih =>
    rw [List.foldl_cons]
    by_cases hrest : ∃ f ∈ es, f.handle.index = i
    · rw [ih _ hrest]
      by_cases he : e.handle.index = i
      · have hcount : naming [e] i + naming es i = naming (e :: es) i := (naming_append [e] es i).symm
        rw [settleEdit_same s n e he]
        simp only [settled, settledMembership_cons, if_pos he, Nat.sub_sub, hcount]
        rfl
      · rw [settleEdit_other s n e he]
        simp only [settled, settledMembership_cons, if_neg he, naming_cons, Nat.add_zero]
    · have hnone : ∀ f ∈ es, f.handle.index ≠ i := fun f hf hi => hrest ⟨f, hf, hi⟩
      have he : e.handle.index = i := by
        obtain ⟨f, hf, hi⟩ := h
        rcases List.mem_cons.1 hf with rfl | hf
        · exact hi
        · exact absurd hi (hnone f hf)
      rw [foldl_settleEdit_unnamed n es _ hnone, settleEdit_same s n e he]
      simp only [settled, settledMembership_cons, settledMembership_unnamed _ hnone, naming_cons,
        naming_eq_zero.2 hnone]
      rfl

/-- Settling edits writes entries and nothing else. -/
theorem foldl_settleEdit_frame (n : Stream) (es : List Edit) (s : State) :
    es.foldl (fun s e => s.settleEdit n e) s =
      { s with entries := (es.foldl (fun s e => s.settleEdit n e) s).entries } := by
  induction es generalizing s with
  | nil => rfl
  | cons e es ih =>
    rw [List.foldl_cons, ih]
    rfl

/-- Stream n's view after its list is applied (R80, R83). -/
def appliedView (s : State) (n : Stream) : View :=
  { s.views[n] with anchors := s.projected n, generation := s.views[n].generation + 1 }

/-- The entries after the edits of stream n's list have been settled. -/
def settledEntries (s : State) (n : Stream) : Vector Entry 64 :=
  (s.lists[n].edits.foldl (fun s e => s.settleEdit n e) (s.setView n (appliedView s n))).entries

/-- An apply writes the stream's view and list, entries, and APPLIED, and nothing else. -/
theorem apply_eq (s : State) (n : Stream) :
    s.apply n = { s with
      entries := settledEntries s n
      views := s.views.set n (appliedView s n)
      lists := s.lists.set n { edits := [], target := none }
      alerts := if inMask s.appliedMask n then insertAlert (.applied n) s.alerts else s.alerts } := by
  have hf := foldl_settleEdit_frame n s.lists[n].edits (s.setView n (appliedView s n))
  have hunfold : s.apply n =
      if inMask (s.lists[n].edits.foldl (fun s e => s.settleEdit n e) (s.setView n (appliedView s n))).appliedMask n then
        ((s.lists[n].edits.foldl (fun s e => s.settleEdit n e) (s.setView n (appliedView s n))).setList n
          { edits := [], target := none }).raise (.applied n)
      else (s.lists[n].edits.foldl (fun s e => s.settleEdit n e) (s.setView n (appliedView s n))).setList n
        { edits := [], target := none } := rfl
  unfold settledEntries
  rw [hunfold]
  generalize s.lists[n].edits.foldl (fun s e => s.settleEdit n e) (s.setView n (appliedView s n)) = x at hf ⊢
  have hmask : x.appliedMask = s.appliedMask := by rw [hf]; rfl
  rw [hmask]
  split <;> (rw [hf]; rfl)

theorem apply_entries (s : State) (n : Stream) : (s.apply n).entries = settledEntries s n := by
  rw [apply_eq]

theorem apply_unnamed {s : State} {n : Stream} {i : EntryIndex} (h : ∀ e ∈ s.lists[n].edits, e.handle.index ≠ i) :
    (s.apply n).entries[i] = s.entries[i] := by
  rw [apply_entries]
  exact foldl_settleEdit_unnamed n s.lists[n].edits (s.setView n (appliedView s n)) h

theorem apply_named {s : State} {n : Stream} {i : EntryIndex} (h : ∃ e ∈ s.lists[n].edits, e.handle.index = i) :
    (s.apply n).entries[i] = settled n i s.entries[i] s.lists[n].edits := by
  rw [apply_entries]
  exact foldl_settleEdit_named n s.lists[n].edits (s.setView n (appliedView s n)) h

theorem apply_view_same (s : State) (n : Stream) : (s.apply n).views[n] = appliedView s n := by
  rw [apply_eq]
  simp only [Fin.getElem_fin, Vector.getElem_set_self]

/-! ### A point on one stream (R95, R96) -/

/-- Stream n's counter one higher (R95). -/
def counted (s : State) (n : Stream) : State :=
  s.setPoint n { s.points[n] with counter := s.points[n].counter + 1 }

theorem makePoint_due {s : State} {n : Stream} (h : DueOn s n) : s.makePoint n = (counted s n).apply n := by
  unfold State.makePoint
  exact if_pos h

theorem makePoint_not_due {s : State} {n : Stream} (h : ¬ DueOn s n) : s.makePoint n = counted s n := by
  unfold State.makePoint
  exact if_neg h

/-- A POINT on one stream makes its point, and answers. -/
theorem reqPoint_one {s : State} {tag m : Byte} {n : Stream} (h : MaskByte m (streamBit n)) :
    ∃ d, reqPoint tag m s = (s.makePoint n).respond tag 0x30 .ok d := by
  unfold reqPoint
  rw [maskOf_some h]
  simp only [maskStreams_streamBit]
  exact ⟨_, rfl⟩

/-- A view holds an entry exactly when its stream is in the entry's membership (R16, R65). -/
theorem membership_iff_holds {s : State} (h : MembershipLaw s) (n : Stream) (i : EntryIndex) :
    inMask s.entries[i].membership n = true ↔ Holds s.views[n].anchors i := by
  rw [(h n).1 i, any_eq_decide_holds]

/-- Settles O34: the apply entry by entry, with R16's law for the view that it starts from. -/
theorem applySettlesNamedEntries : Obligations.ApplySettlesNamedEntries := by
  unfold Obligations.ApplySettlesNamedEntries
  intro s tag m n hidle hlaw hm hdue
  obtain ⟨-, -, hmember, -⟩ := hlaw
  obtain ⟨d, hreq⟩ := reqPoint_one (s := taken s 4) (tag := tag) hm
  have hpoint : (taken s 4).makePoint n = (counted (taken s 4) n).apply n := makePoint_due hdue
  have hview := apply_view_same (counted (taken s 4) n) n
  refine ⟨_, (next_onRequest hidle 4 _).trans (congrArg _ hreq), ?_, ?_, ?_, ?_⟩
  · rw [respond_views, hpoint, hview]
    rfl
  · rw [respond_views, hpoint, hview]
    rfl
  · rw [respond_views, hpoint, hview]
    rfl
  · intro i
    rw [respond_entries, hpoint]
    refine ⟨?_, ?_⟩
    · intro hnamed
      refine ⟨settledMembership n i s.entries[i].membership s.lists[n].edits, ?_, ?_, ?_⟩
      · rw [Bool.eq_iff_iff, decide_eq_true_iff]
        exact inMask_settledMembership_iff_holds _ (membership_iff_holds hmember n i)
      · intro k hk
        exact inMask_settledMembership_other i _ _ hk
      · exact apply_named (s := counted (taken s 4) n) hnamed
    · intro hnot
      exact apply_unnamed (s := counted (taken s 4) n) hnot

end Sys2Proof.ProfileTable

/-! PROOFS. Baselines: RESTORE_BASELINE and its completion, the start-up load, and what a device reset leaves. -/

namespace Sys2Proof.ProfileTable

open Sys2Proof Sys2Proof.Machine Sys2Proof.Safety

/-! ### Knots written and struck (R31, R34, R45) -/

theorem putKnot_frame (s : State) (i : EntryIndex) (j : Nat) (w : KnotWord) :
    s.putKnot i j w = { s with memory := (s.putKnot i j w).memory } := by
  unfold State.putKnot
  split <;> rfl

theorem writeKnots_frame (vs : List Knot) (s : State) (i : EntryIndex) (first : Nat) :
    s.writeKnots i first vs = { s with memory := (s.writeKnots i first vs).memory } := by
  induction vs generalizing s first with
  | nil => rfl
  | cons v vs ih =>
    rw [State.writeKnots, ih, putKnot_frame]

theorem upsetKnots_frame (us : List LoadUpset) (s : State) (i : EntryIndex) :
    s.upsetKnots i us = { s with memory := (s.upsetKnots i us).memory } := by
  unfold State.upsetKnots
  induction us generalizing s with
  | nil => rfl
  | cons u us ih =>
    rw [List.foldl_cons, ih, putKnot_frame]

/-- Knot addresses go by the page lists alone. -/
theorem knotAddress_congr {s t : State} (h : t.entries = s.entries) (i : EntryIndex) (j : Nat) :
    t.knotAddress i j = s.knotAddress i j := by
  unfold State.knotAddress
  rw [h]

theorem knotAddress_putKnot (s : State) (i : EntryIndex) (j : Nat) (w : KnotWord) (k : EntryIndex) (l : Nat) :
    (s.putKnot i j w).knotAddress k l = s.knotAddress k l :=
  knotAddress_congr (by rw [putKnot_frame]) k l

/-- Distinct knots of an entry that holds no page twice have distinct addresses. -/
theorem knotAddress_injective {s : State} {i : EntryIndex} (hp : s.entries[i].pages.Nodup) {j k a : Nat}
    (hj : s.knotAddress i j = some a) (hk : s.knotAddress i k = some a) : j = k := by
  obtain ⟨p, hp1, hp2⟩ := Option.map_eq_some_iff.1 hj
  obtain ⟨q, hq1, hq2⟩ := Option.map_eq_some_iff.1 hk
  have hpq : p = q := by omega
  subst hpq
  obtain ⟨h1, e1⟩ := List.getElem?_eq_some_iff.1 hp1
  obtain ⟨h2, e2⟩ := List.getElem?_eq_some_iff.1 hq1
  have hdiv : j / 64 = k / 64 := (List.Nodup.getElem_inj_iff hp).1 (e1.trans e2.symm)
  omega

/-- A knot below 64 times the number of pages has an address. -/
theorem knotAddress_isSome {s : State} {i : EntryIndex} {j : Nat} (h : j < 64 * s.entries[i].pages.length) :
    ∃ a, s.knotAddress i j = some a := by
  have hlt : j / 64 < s.entries[i].pages.length := by omega
  exact ⟨_, by rw [State.knotAddress, List.getElem?_eq_getElem hlt]; rfl⟩

theorem readKnot_eq {s : State} {i : EntryIndex} {j a : Nat} (h : s.knotAddress i j = some a) :
    s.readKnot i j = s.memory.read a := by
  unfold State.readKnot
  rw [h]

theorem putKnot_read_same {s : State} {i : EntryIndex} {j a : Nat} (w : KnotWord) (hm : s.memory.wf = true)
    (h : s.knotAddress i j = some a) : (s.putKnot i j w).memory.read a = w := by
  unfold State.putKnot
  rw [h]
  exact Memory.read_write_same hm

theorem putKnot_read_other {s : State} {i : EntryIndex} {j a : Nat} (w : KnotWord) (hm : s.memory.wf = true)
    (h : s.knotAddress i j ≠ some a) : (s.putKnot i j w).memory.read a = s.memory.read a := by
  unfold State.putKnot
  cases hj : s.knotAddress i j with
  | none => rfl
  | some b => exact Memory.read_write_other hm (fun e => h (by rw [hj, e]))

/-- Writing a run of knots leaves every word that is none of theirs. -/
theorem writeKnots_read_other (vs : List Knot) {s : State} {i : EntryIndex} {first a : Nat} (hm : s.memory.wf = true)
    (h : ∀ k, k < vs.length → s.knotAddress i (first + k) ≠ some a) :
    (s.writeKnots i first vs).memory.read a = s.memory.read a := by
  induction vs generalizing s first with
  | nil => rfl
  | cons v vs ih =>
    rw [State.writeKnots, ih (State.putKnot_wf s i first _ hm), putKnot_read_other _ hm]
    · exact h 0 (by simp)
    · intro k hk
      rw [knotAddress_putKnot, Nat.add_assoc, Nat.add_comm 1 k]
      exact h (k + 1) (by simpa using hk)

/-- Each knot of a run is written at its place with agreeing parity (R34). -/
theorem writeKnots_read_same (vs : List Knot) {s : State} {i : EntryIndex} {first k a : Nat} (hm : s.memory.wf = true)
    (hp : s.entries[i].pages.Nodup) (hk : k < vs.length) (ha : s.knotAddress i (first + k) = some a) :
    (s.writeKnots i first vs).memory.read a = KnotWord.ofValue vs[k] := by
  induction vs generalizing s first k with
  | nil => exact absurd hk (Nat.not_lt_zero k)
  | cons v vs ih =>
    have hm' := State.putKnot_wf s i first (KnotWord.ofValue v) hm
    have hp' : (s.putKnot i first (KnotWord.ofValue v)).entries[i].pages.Nodup := by
      rw [putKnot_frame]
      exact hp
    rw [State.writeKnots]
    cases k with
    | zero =>
      rw [Nat.add_zero] at ha
      rw [writeKnots_read_other vs hm', putKnot_read_same _ hm ha]
      · rfl
      · intro l _ hl
        rw [knotAddress_putKnot] at hl
        have := knotAddress_injective hp ha hl
        omega
    | succ k =>
      have ha' : (s.putKnot i first (KnotWord.ofValue v)).knotAddress i (first + 1 + k) = some a := by
        rw [knotAddress_putKnot, Nat.add_assoc, Nat.add_comm 1 k]
        exact ha
      exact ih hm' hp' (by simpa using hk) ha'

/-- Stored faults leave every word that none of them strikes. -/
theorem upsetKnots_read_other (us : List LoadUpset) {s : State} {i : EntryIndex} {a : Nat} (hm : s.memory.wf = true)
    (h : ∀ u ∈ us, s.knotAddress i u.index ≠ some a) : (s.upsetKnots i us).memory.read a = s.memory.read a := by
  unfold State.upsetKnots
  induction us generalizing s with
  | nil => rfl
  | cons u us ih =>
    rw [List.foldl_cons, ih (State.putKnot_wf s i _ _ hm), putKnot_read_other _ hm (h u (by simp))]
    intro v hv
    rw [knotAddress_putKnot]
    exact h v (by simp [hv])

/-! ### The knots of a baseline load (R10, R159) -/

theorem loadKnots_frame (s : State) (i : EntryIndex) (f : SlotFields) (g : Geometry) (upsets : List LoadUpset) :
    s.loadKnots i f g upsets = { s with memory := (s.loadKnots i f g upsets).memory } := by
  unfold State.loadKnots
  rw [upsetKnots_frame, writeKnots_frame]

theorem loadKnots_entries (s : State) (i : EntryIndex) (f : SlotFields) (g : Geometry) (upsets : List LoadUpset) :
    (s.loadKnots i f g upsets).entries = s.entries := by
  rw [loadKnots_frame]

theorem length_knots (f : SlotFields) (g : Geometry) : (f.knots g).length = g.columns * g.rows * g.channels := by
  simp [SlotFields.knots, decompress, Geometry.knotCount]

theorem getElem_knots (f : SlotFields) (g : Geometry) (j : Nat) (h : j < (f.knots g).length) :
    (f.knots g)[j] = f.bases.getD (j % g.channels) 0 + BitVec.ofNat 12 (f.deltas.getD j 0).toNat := by
  simp [SlotFields.knots, decompress]

/-- A knot that no stored fault strikes is the slot's knot with agreeing parity. -/
theorem loadKnots_readKnot {s : State} {i : EntryIndex} {f : SlotFields} {g : Geometry} {upsets : List LoadUpset} {j : Nat}
    (hm : s.memory.wf = true) (hp : s.entries[i].pages.Nodup)
    (hc : g.columns * g.rows * g.channels ≤ 64 * s.entries[i].pages.length)
    (hj : j < g.columns * g.rows * g.channels) (hu : ∀ u ∈ upsets, u.index ≠ j) :
    (s.loadKnots i f g upsets).readKnot i j =
      KnotWord.ofValue (f.bases.getD (j % g.channels) 0 + BitVec.ofNat 12 (f.deltas.getD j 0).toNat) := by
  obtain ⟨a, ha⟩ := knotAddress_isSome (s := s) (i := i) (j := j) (by omega)
  have hload : (s.loadKnots i f g upsets).knotAddress i j = some a := by
    rw [knotAddress_congr (loadKnots_entries s i f g upsets), ha]
  have hwritten : ∀ k, (s.writeKnots i 0 (f.knots g)).knotAddress i k = s.knotAddress i k := fun k =>
    knotAddress_congr (by rw [writeKnots_frame]) i k
  rw [readKnot_eq hload, State.loadKnots, upsetKnots_read_other upsets (State.writeKnots_wf _ s i 0 hm),
    writeKnots_read_same (k := j) _ hm hp (by rw [length_knots]; exact hj) (by rw [Nat.zero_add]; exact ha),
    getElem_knots]
  intro u hmem hsame
  rw [hwritten] at hsame
  exact hu u hmem (knotAddress_injective hp hsame ha)

/-- A load writes no word but its entry's. -/
theorem loadKnots_read_other {s : State} {i : EntryIndex} (f : SlotFields) (g : Geometry) (upsets : List LoadUpset) {a : Nat}
    (hm : s.memory.wf = true) (h : ∀ j, s.knotAddress i j ≠ some a) :
    (s.loadKnots i f g upsets).memory.read a = s.memory.read a := by
  rw [State.loadKnots, upsetKnots_read_other upsets (State.writeKnots_wf _ s i 0 hm),
    writeKnots_read_other _ hm (fun k _ => h _)]
  intro u _
  rw [knotAddress_congr (s := s) (by rw [writeKnots_frame])]
  exact h _

/-! ### The check of an entry (R38) -/

theorem checkEntry_fault {s : State} {i : EntryIndex} {j : Nat} (h : FirstFault s i 0 s.entries[i].knotCount j) :
    s.checkEntry i = .fault j := by
  unfold State.checkEntry State.readAll
  rw [readRun_error h]

theorem checkEntry_crc {s : State} {i : EntryIndex} (h : AllGood s i 0 s.entries[i].knotCount) :
    s.checkEntry i = .crc (crc16 (knotValues s i 0 s.entries[i].knotCount)) := by
  unfold State.checkEntry State.readAll
  rw [readRun_ok h]

/-! ### Slots as they are read (R152) -/

/-- A slot read as PROGRAMMED stores a grid and a format in range. -/
theorem reading_programmed {x : Slot} {f : SlotFields} {g : Geometry} {fmt : Format}
    (h : x.reading = .programmed f g fmt) :
    x.state = .programmed ∧ x.fields = some f ∧ geometryOf f.columns f.rows f.channels = some g ∧
      formatOf f.format = some fmt := by
  unfold Slot.reading at h
  split at h
  · cases h
  · cases h
  · cases h
  · next hst =>
    split at h
    · cases h
    · next f' hf =>
      split at h
      · next g' fmt' hg hfmt =>
        cases h
        exact ⟨hst, hf, hg, hfmt⟩
      · cases h

theorem reading_blank {x : Slot} : x.reading = .blank ↔ x.state = .blank := by
  constructor
  · intro h
    unfold Slot.reading at h
    split at h
    · assumption
    · cases h
    · cases h
    · split at h
      · cases h
      · split at h <;> cases h
  · intro h
    unfold Slot.reading
    rw [h]

theorem reading_ne_programmed_of_blank {x : Slot} (h : x.reading = .blank) (f : SlotFields) (g : Geometry)
    (fmt : Format) : x.reading ≠ .programmed f g fmt := by
  rw [h]
  exact SlotReading.noConfusion

theorem reading_ne_programmed_of_spoiled {x : Slot} {why : SpoiledFrom} (h : x.reading = .spoiled why) (f : SlotFields)
    (g : Geometry) (fmt : Format) : x.reading ≠ .programmed f g fmt := by
  rw [h]
  exact SlotReading.noConfusion

theorem geometryOk_of_geometryOf {c r ch : Byte} {g : Geometry} (h : geometryOf c r ch = some g) : GeometryOk g := by
  unfold geometryOf at h
  split at h
  · next hr =>
    cases h
    obtain ⟨h1, h2, h3, h4, h5⟩ := hr
    refine ⟨h1, h2, h3, h4, ?_⟩
    rcases h5 with rfl | rfl <;> simp
  · cases h

/-- A grid in range takes at most 12 pages. -/
theorem pageCount_le {g : Geometry} (h : GeometryOk g) : g.pageCount ≤ 12 := by
  obtain ⟨h1, h2, h3, h4, h5⟩ := h
  have hk : g.columns * g.rows * g.channels ≤ 16 * 12 * 4 :=
    Nat.mul_le_mul (Nat.mul_le_mul h2 h4) (by omega)
  unfold Geometry.pageCount Geometry.knotCount
  omega

/-! ### RESTORE_BASELINE and QUERY_SLOT (R158, R160) -/

section Slots

variable {s : State} {tag b : Byte} {n : Stream}

theorem reqRestoreBaseline_range (hb : 4 ≤ b.toNat) : reqRestoreBaseline tag b s = s.respond tag 0x51 .range [] := by
  unfold reqRestoreBaseline
  rw [streamOf_none hb]

theorem reqRestoreBaseline_empty (hb : StreamByte b n) (hr : s.slots[n].reading = .blank) :
    reqRestoreBaseline tag b s = s.respond tag 0x51 .slotEmpty [] := by
  unfold reqRestoreBaseline
  simp only [streamOf_some hb, hr]

theorem reqRestoreBaseline_spoiled {why : SpoiledFrom} (hb : StreamByte b n) (hr : s.slots[n].reading = .spoiled why) :
    reqRestoreBaseline tag b s = s.respond tag 0x51 .slotSpoiled [] := by
  unfold reqRestoreBaseline
  simp only [streamOf_some hb, hr]

theorem reqRestoreBaseline_error {f : SlotFields} {g : Geometry} {fmt : Format} {r : Result} (hb : StreamByte b n)
    (hr : s.slots[n].reading = .programmed f g fmt) (ha : s.allocate (slotProfile n f g fmt) = .error r) :
    reqRestoreBaseline tag b s = s.respond tag 0x51 r [] := by
  unfold reqRestoreBaseline
  simp only [streamOf_some hb, hr, ha]

theorem reqRestoreBaseline_ok {f : SlotFields} {g : Geometry} {fmt : Format} {i : EntryIndex} {s' : State}
    (hb : StreamByte b n) (hr : s.slots[n].reading = .programmed f g fmt)
    (ha : s.allocate (slotProfile n f g fmt) = .ok (i, s')) :
    reqRestoreBaseline tag b s = s'.startJob tag 0x51 (.restore n i) := by
  unfold reqRestoreBaseline
  simp only [streamOf_some hb, hr, ha]

theorem reqQuerySlot_range (hb : 4 ≤ b.toNat) : reqQuerySlot tag b s = s.respond tag 0x52 .range [] := by
  unfold reqQuerySlot
  rw [streamOf_none hb]

theorem reqQuerySlot_ok (hb : StreamByte b n) : reqQuerySlot tag b s = s.respond tag 0x52 .ok s.slots[n].bytes := by
  unfold reqQuerySlot
  rw [streamOf_some hb]

end Slots

/-- Settles O53: RESTORE_BASELINE and QUERY_SLOT by the slot as it is read, the grant written out. -/
theorem restoreBaselineAllocates : Obligations.RestoreBaselineAllocates := by
  unfold Obligations.RestoreBaselineAllocates
  intro s tag b hidle act
  have hrun : act = .next (reqRestoreBaseline tag b (taken s 4)) := next_onRequest hidle 4 _
  have hquery : exec (.querySlot tag b) s = .next (reqQuerySlot tag b (taken s 4)) := next_onRequest hidle 4 _
  rw [hrun, hquery]
  refine ⟨?_, ?_⟩
  · intro hb
    exact ⟨congrArg _ (reqRestoreBaseline_range hb), congrArg _ (reqQuerySlot_range hb)⟩
  · intro n hb
    have hslot : ∀ d, s.slots[n].bytes = d →
        reqQuerySlot tag b (taken s 4) = (taken s 4).respond tag 0x52 .ok d := by
      rintro d rfl
      exact reqQuerySlot_ok hb
    refine ⟨?_, ?_, ?_⟩
    · intro hblank
      have hr := reading_blank.2 hblank
      refine ⟨congrArg _ (reqRestoreBaseline_empty hb hr), congrArg _ (hslot _ ?_)⟩
      rw [Slot.bytes, hr]
    · intro why hr
      refine ⟨congrArg _ (reqRestoreBaseline_spoiled hb hr), congrArg _ (hslot _ ?_)⟩
      rw [Slot.bytes, hr]
      cases why <;> rfl
    · intro f g fmt hr p
      have hcount : (slotProfile n f g fmt).geometry.pageCount = p := rfl
      refine ⟨congrArg _ (hslot _ ?_), ?_, ?_, ?_⟩
      · rw [Slot.bytes, hr]
        rfl
      · intro hfull
        exact congrArg _ (reqRestoreBaseline_error hb hr (allocate_tableFull (lowestFree_none (s := taken s 4) hfull)))
      · intro i hfree hpages
        exact congrArg _ (reqRestoreBaseline_error hb hr (allocate_noSpace_of_free (s := taken s 4) hfree hpages))
      · intro i hm hfree hlow hpages
        have ha := allocate_granted (pr := slotProfile n f g fmt)
          (lowestFree_some (s := taken s 4) hfree hlow) hpages
        refine ⟨_, congrArg _ (reqRestoreBaseline_ok hb hr ha), ?_, ?_, ?_, ?_, ?_, ?_⟩
        · rw [granted_frame]
          rfl
        · exact granted_entry_same (taken s 4) i _
        · intro j hj
          exact granted_entry_other (taken s 4) i j _ hj
        · intro page hp o ho
          exact granted_read_page (s := taken s 4) (i := i) (pr := slotProfile n f g fmt) hm hp ho
        · intro a hn
          exact granted_read_other (s := taken s 4) (i := i) (pr := slotProfile n f g fmt) hm hn
        · rw [granted_frame]
          rfl

/-! ### RESTORE_COMPLETE (R159) -/

section Restore

variable {s : State} {tag : Byte} {n : Stream} {i : EntryIndex} {f : SlotFields} {g : Geometry} {fmt : Format}
  {upsets : List LoadUpset}

theorem endRestore_fault {j : Nat} (hr : s.slots[n].reading = .programmed f g fmt)
    (hc : (s.loadKnots i f g upsets).checkEntry i = .fault j) :
    endRestore upsets tag n i s =
      completed (afterFreeing (s.loadKnots i f g upsets) i) tag 0x51 .parity (wordOfNat j) := by
  unfold endRestore
  simp only [hr, hc]
  rfl

theorem endRestore_mismatch {c : Word} (hr : s.slots[n].reading = .programmed f g fmt)
    (hc : (s.loadKnots i f g upsets).checkEntry i = .crc c) (hne : c ≠ f.crc) :
    endRestore upsets tag n i s =
      completed (afterFreeing (s.loadKnots i f g upsets) i) tag 0x51 .checkMismatch (wordBytes c) := by
  unfold endRestore
  simp only [hr, hc, hne, ↓reduceIte]
  rfl

theorem endRestore_ok (hr : s.slots[n].reading = .programmed f g fmt)
    (hc : (s.loadKnots i f g upsets).checkEntry i = .crc f.crc) :
    endRestore upsets tag n i s =
      completed { s.loadKnots i f g upsets with
        entries := s.entries.set i { s.entries[i] with state := .staged, checkValue := some f.crc } }
        tag 0x51 .ok ([byteOf i.val, s.entries[i].revision] ++ wordBytes f.key ++ wordBytes f.plateau) := by
  unfold endRestore
  simp only [hr, hc, ↓reduceIte, loadKnots_entries]
  unfold State.setEntry
  simp only [loadKnots_entries]
  rfl

theorem exec_restoreComplete (upsets : List LoadUpset) (he : s.engine = .busy tag (.restore n i)) :
    exec (.restoreComplete upsets) s = .next (endRestore upsets tag n i s) := by
  show execRestoreComplete upsets s = _
  unfold execRestoreComplete
  rw [he]

end Restore

/-- Settles O54: the words a load writes, and the completion by its check. -/
theorem restoreCompletesByItsCheck : Obligations.RestoreCompletesByItsCheck := by
  unfold Obligations.RestoreCompletesByItsCheck
  refine ⟨?_, ?_, ?_⟩
  · intro s i f g upsets hm hp hc
    exact ⟨loadKnots_frame s i f g upsets, fun j hj hu => loadKnots_readKnot hm hp hc hj hu,
      fun a ha => loadKnots_read_other f g upsets hm ha⟩
  · intro s tag n i f g fmt upsets he hr l count
    have hcount : l.entries[i].knotCount = count := by
      rw [loadKnots_entries]
    rw [exec_restoreComplete upsets he]
    refine ⟨?_, ?_, ?_⟩
    · intro j hj
      rw [← hcount] at hj
      exact congrArg _ (endRestore_fault hr (checkEntry_fault hj))
    · intro hgood hne
      rw [← hcount] at hgood hne ⊢
      exact congrArg _ (endRestore_mismatch hr (checkEntry_crc hgood) hne)
    · intro hgood heq
      rw [← hcount] at hgood heq
      exact congrArg _ (endRestore_ok hr (by rw [checkEntry_crc hgood, heq]))
  · intro s upsets hne
    show execRestoreComplete upsets s = _
    unfold execRestoreComplete
    split
    · next tag n i he => exact absurd he (hne tag n i)
    · rfl

/-! ### The start-up load (R161 to R163) -/

section Load

variable {s : State} {n : Stream} {f : SlotFields} {g : Geometry} {fmt : Format}

theorem completeLoad_blank {entry : Option EntryIndex} {upsets : List LoadUpset} (hr : s.slots[n].reading = .blank) :
    s.completeLoad n entry upsets = s := by
  unfold State.completeLoad
  rw [hr]

theorem completeLoad_spoiled {entry : Option EntryIndex} {upsets : List LoadUpset} {why : SpoiledFrom}
    (hr : s.slots[n].reading = .spoiled why) : s.completeLoad n entry upsets = s.raise (.baselineBad n) := by
  unfold State.completeLoad
  rw [hr]

/-- The good case of a slot's load (R10, R162). -/
theorem completeLoad_good {i : EntryIndex} {upsets : List LoadUpset} (hr : s.slots[n].reading = .programmed f g fmt)
    (hc : (s.loadKnots i f g upsets).checkEntry i = .crc f.crc) :
    s.completeLoad n (some i) upsets = (s.loadKnots i f g upsets).attachBaseline n i f g fmt := by
  unfold State.completeLoad
  simp only [hr, hc, ↓reduceIte]

/-- The bad case of a slot's load (R162): the entry freed, the view left empty. -/
theorem completeLoad_bad {i : EntryIndex} {upsets : List LoadUpset} (hr : s.slots[n].reading = .programmed f g fmt)
    (hc : (s.loadKnots i f g upsets).checkEntry i ≠ .crc f.crc) :
    s.completeLoad n (some i) upsets = ((s.loadKnots i f g upsets).freeEntry i).leaveEmpty n g fmt := by
  unfold State.completeLoad
  simp only [hr]
  split
  · next c hcrc =>
    rw [if_neg]
    rintro rfl
    exact hc hcrc
  · rfl

/-- The good case, in one record. -/
theorem attachBaseline_loadKnots (s : State) (n : Stream) (i : EntryIndex) (f : SlotFields) (g : Geometry) (fmt : Format)
    (upsets : List LoadUpset) :
    (s.loadKnots i f g upsets).attachBaseline n i f g fmt = { s.loadKnots i f g upsets with
      entries := s.entries.set i
        { s.entries[i] with state := .live, checkValue := some f.crc, membership := streamBit n }
      views := s.views.set n
        { config := some { geometry := g, format := fmt }
          anchors := [{ handle := { index := i, revision := s.entries[i].revision }, key := f.key, plateau := f.plateau }]
          generation := s.views[n].generation + 1 } } := by
  rw [loadKnots_frame]
  unfold State.attachBaseline
  simp only [setEntry_get_same]
  rfl

/-- The bad case, in one record. -/
theorem leaveEmpty_loadKnots (s : State) (n : Stream) (i : EntryIndex) (f : SlotFields) (g : Geometry) (fmt : Format)
    (upsets : List LoadUpset) :
    ((s.loadKnots i f g upsets).freeEntry i).leaveEmpty n g fmt = { afterFreeing (s.loadKnots i f g upsets) i with
      views := s.views.set n { s.views[n] with config := some { geometry := g, format := fmt }, anchors := [] }
      alerts := insertAlert (.baselineBad n) s.alerts } := by
  rw [loadKnots_frame]
  rfl

theorem beginLoad_none (hr : ∀ f g fmt, s.slots[n].reading ≠ .programmed f g fmt) :
    s.beginLoad n = { s with engine := .starting n none } := by
  unfold State.beginLoad
  split
  · next f g fmt e => exact absurd e (hr f g fmt)
  · rfl

theorem beginLoad_granted {i : EntryIndex} (hr : s.slots[n].reading = .programmed f g fmt)
    (hi : s.lowestFree = some i) (hp : g.pageCount ≤ s.freePages.length) :
    s.beginLoad n = { granted s i (slotProfile n f g fmt) with engine := .starting n (some i) } := by
  have ha : s.allocate (slotProfile n f g fmt) = .ok (i, granted s i (slotProfile n f g fmt)) := allocate_granted hi hp
  unfold State.beginLoad
  simp only [hr, ha]

/-- Every port of a list changed, and no other. -/
theorem foldl_modPort_ports (l : List Stream) (s : State) (hl : l.Nodup) (f : Port → Port) (p : Stream) :
    (l.foldl (fun s p => s.modPort p f) s).ports[p] = if p ∈ l then f s.ports[p] else s.ports[p] := by
  induction l generalizing s with
  | nil => rfl
  | cons q l ih =>
    obtain ⟨hq, hl⟩ := List.nodup_cons.1 hl
    rw [List.foldl_cons, ih _ hl]
    by_cases hp : p = q
    · subst hp
      rw [if_neg hq, if_pos List.mem_cons_self, State.modPort, setPort_get_same]
    · rw [State.modPort, setPort_get_other _ _ _ _ hp]
      simp only [List.mem_cons, hp, false_or]

theorem foldl_modPort_frame (l : List Stream) (s : State) (f : Port → Port) :
    l.foldl (fun s p => s.modPort p f) s = { s with ports := (l.foldl (fun s p => s.modPort p f) s).ports } := by
  induction l generalizing s with
  | nil => rfl
  | cons q l ih =>
    rw [List.foldl_cons, ih]
    rfl

theorem started_frame (s : State) :
    s.started = { s with alerts := insertAlert .started s.alerts, engine := .idle, ports := s.started.ports } := by
  unfold State.started
  simp only
  rw [foldl_modPort_frame]
  rfl

theorem started_ports (s : State) (p : Stream) :
    s.started.ports[p] = { s.ports[p] with active := true, out := s.ports[p].out ++ [.notice .ready] } := by
  unfold State.started
  simp only
  rw [foldl_modPort_ports _ _ nodup_allStreams, if_pos (mem_allStreams p)]
  rfl

theorem exec_slotLoad {entry : Option EntryIndex} (upsets : List LoadUpset) (he : s.engine = .starting n entry) :
    exec (.slotLoad n upsets) s = .next (if n = 3 then (s.completeLoad n entry upsets).started
      else (s.completeLoad n entry upsets).beginLoad (n + 1)) := by
  show execSlotLoad n upsets s = _
  unfold execSlotLoad
  rw [he]
  simp only [↓reduceIte]
  split <;> rfl

end Load

/-- Settles O55: the load by the slot as it is read and its check, then what follows it. -/
theorem slotLoadFollowsItsTable : Obligations.SlotLoadFollowsItsTable := by
  unfold Obligations.SlotLoadFollowsItsTable
  refine ⟨?_, ?_, ?_, ?_⟩
  · intro s n entry upsets he act go
    have hact : ∀ u, s.completeLoad n entry upsets = u → act = go u := by
      rintro u rfl
      exact exec_slotLoad upsets he
    refine ⟨?_, ?_, ?_⟩
    · intro hblank
      exact hact _ (completeLoad_blank (reading_blank.2 hblank))
    · intro why hr
      exact hact _ (completeLoad_spoiled hr)
    · intro f g fmt i hr hentry l count config
      subst hentry
      have hcount : l.entries[i].knotCount = count := by
        rw [loadKnots_entries]
      refine ⟨?_, ?_⟩
      · intro hgood heq
        rw [← hcount] at hgood heq
        apply hact
        rw [completeLoad_good hr (by rw [checkEntry_crc hgood, heq]), attachBaseline_loadKnots]
      · intro hbad
        apply hact
        rw [completeLoad_bad hr, leaveEmpty_loadKnots]
        rw [← hcount] at hbad
        rcases hbad with ⟨hgood, hne⟩ | ⟨j, hj⟩
        · rw [checkEntry_crc hgood]
          exact fun e => hne (CheckOutcome.crc.inj e)
        · rw [checkEntry_fault hj]
          exact fun e => CheckOutcome.noConfusion e
  · intro s n upsets hne
    show execSlotLoad n upsets s = _
    unfold execSlotLoad
    split
    · next m entry he =>
      rw [if_neg]
      rintro rfl
      exact hne entry he
    · rfl
  · intro s
    exact ⟨started_frame s, started_ports s⟩
  · intro s n
    refine ⟨?_, ?_, ?_⟩
    · intro hblank
      exact beginLoad_none (reading_ne_programmed_of_blank (reading_blank.2 hblank))
    · intro why hr
      exact beginLoad_none (reading_ne_programmed_of_spoiled hr)
    · intro f g fmt i hm hr hfree hlow hpages p u
      have hu : u = { granted s i (slotProfile n f g fmt) with engine := .starting n (some i) } :=
        beginLoad_granted hr (lowestFree_some hfree hlow) hpages
      rw [hu]
      refine ⟨?_, ?_, ?_, ?_, ?_⟩
      · rw [granted_frame]
        rfl
      · exact granted_entry_same s i _
      · intro j hj
        exact granted_entry_other s i j _ hj
      · intro page hp o ho
        exact granted_read_page (i := i) (pr := slotProfile n f g fmt) hm hp ho
      · intro a hn
        exact granted_read_other (i := i) (pr := slotProfile n f g fmt) hm hn

end Sys2Proof.ProfileTable

/-! PROOFS. What reset leaves: the stated values, and the laws of the device. -/

namespace Sys2Proof.ProfileTable

open Sys2Proof Sys2Proof.Machine Sys2Proof.Safety

/-! ### The records of a part just reset -/

section AfterReset

variable (levels : LineLevels) (straps : BitVec 2) (slots : Vector Slot 4) (pending : List Instr)

theorem afterReset_entries (i : EntryIndex) :
    (State.afterReset levels straps slots pending).entries[i] = Entry.freed 0 := Vector.getElem_replicate _

theorem afterReset_views (n : Stream) :
    (State.afterReset levels straps slots pending).views[n] = View.reset := Vector.getElem_replicate _

theorem afterReset_lists (n : Stream) :
    (State.afterReset levels straps slots pending).lists[n] = EditList.reset := Vector.getElem_replicate _

theorem afterReset_ports (n : Stream) :
    (State.afterReset levels straps slots pending).ports[n] = Port.reset := Vector.getElem_replicate _

theorem afterReset_points (n : Stream) :
    (State.afterReset levels straps slots pending).points[n] = PointRecord.reset n := by
  fin_cases n <;> rfl

theorem afterReset_freePages : (State.afterReset levels straps slots pending).freePages = List.range 512 := by
  simp only [State.afterReset]

end AfterReset

/-- The records that RecordLaw speaks of, as a device reset leaves them before the start-up load begins (R161). -/
structure RecordsReset (s : State) : Prop where
  entries : ∀ i : EntryIndex, s.entries[i] = Entry.freed 0
  views : ∀ n : Stream, s.views[n] = View.reset
  lists : ∀ n : Stream, s.lists[n] = EditList.reset
  queues : ∀ p : Stream, s.ports[p].queue = []
  engine : s.engine = .starting 0 none

theorem entryOk_freed (rev : Byte) : EntryOk (Entry.freed rev) := rfl

/-- The laws of the records hold where there is nothing in them. -/
theorem recordLaw_of_recordsReset {s : State} (h : RecordsReset s) : RecordLaw s := by
  refine ⟨?_, ?_, ?_, ?_, ?_, ?_, ?_⟩
  · intro i
    rw [h.entries i]
    exact entryOk_freed 0
  · intro i
    rw [h.entries i]
    refine ⟨?_, ?_⟩
    · simp only [editsNaming, h.lists]
      rfl
    · simp only [lookupsNaming, h.queues]
      rfl
  · intro n
    simp [h.entries, h.views n, View.reset, Entry.freed, inMask]
  · intro n
    unfold LayoutLawOf
    rw [h.views n, h.lists n]
    exact ⟨rfl, rfl⟩
  · intro n e he
    rw [h.lists n] at he
    cases he
  · unfold EngineLaw
    rw [h.engine]
    refine ⟨h.lists, ?_, ?_⟩
    · intro m _
      rw [h.views m]
      rfl
    · intro i hi
      cases hi
  · intro p l hl
    rw [h.queues p] at hl
    cases hl

theorem recordsReset_reset : RecordsReset State.reset where
  entries := afterReset_entries _ _ _ _
  views := afterReset_views _ _ _ _
  lists := afterReset_lists _ _ _ _
  queues := fun p => congrArg Port.queue (afterReset_ports _ _ _ _ p)
  engine := rfl

/-! ### The laws of the device right after reset -/

theorem storeLaw_reset : StoreLaw State.reset := by
  have hheld : pagesHeld State.reset = List.range 512 := by
    simp [pagesHeld, State.reset, State.afterReset, Entry.freed]
  refine ⟨⟨State.reset_memory_wf, fun c hc => absurd hc (List.not_mem_nil)⟩, ?_, ?_⟩
  · rw [hheld]
  · intro i _
    rw [recordsReset_reset.entries i]
    rfl

theorem armedLaw_reset : ArmedLaw State.reset := by
  intro n
  have hlist := recordsReset_reset.lists n
  have hpoint : State.reset.points[n] = PointRecord.reset n := afterReset_points _ _ _ _ n
  refine ⟨⟨?_, ?_⟩, ?_⟩
  · rw [hlist]
    exact Nat.zero_le 8
  · intro T hT
    rw [hlist] at hT
    cases hT
  · rw [hpoint]
    exact ⟨le_refl 1, Nat.one_le_ofNat, Nat.zero_lt_one⟩

theorem servingLaw_reset : ServingLaw State.reset := by
  have hport : ∀ p : Stream, State.reset.ports[p] = Port.reset := afterReset_ports _ _ _ _
  refine ⟨?_, ?_, ?_⟩
  · intro p
    rw [hport p]
    refine ⟨?_, rfl⟩
    unfold PortOk TimerOk
    simp [Port.reset]
  · intro p l hl
    rw [hport p] at hl
    cases hl
  · intro d hd
    cases hd

/-- Settles O5, law by law. -/
theorem lawsHoldAtReset : Obligations.LawsHoldAtReset :=
  ⟨storeLaw_reset, List.Pairwise.nil, armedLaw_reset, servingLaw_reset, recordLaw_of_recordsReset recordsReset_reset⟩

/-! ### DEVICE_RESET (R161) -/

/-- The part when its blocks have been reset and the start-up load has not begun: the slots and the queue kept, the messages
being sent cut off (R114). -/
def blocksReset (s : State) (moment : ResetMoment) (straps : BitVec 2) : State :=
  { State.afterReset moment.levels straps s.slots s.pending with ports := s.resetPorts moment.sent }

theorem exec_deviceReset (s : State) (moment : ResetMoment) (straps : BitVec 2) :
    exec (.deviceReset moment straps) s = .next ((blocksReset s moment straps).beginLoad 0) := rfl

theorem recordsReset_blocksReset (s : State) (moment : ResetMoment) (straps : BitVec 2) :
    RecordsReset (blocksReset s moment straps) where
  entries := afterReset_entries moment.levels straps s.slots s.pending
  views := afterReset_views moment.levels straps s.slots s.pending
  lists := afterReset_lists moment.levels straps s.slots s.pending
  queues := fun p => by
    show (s.resetPorts moment.sent)[p].queue = []
    rw [resetPorts_get]
    rfl
  engine := rfl

theorem blocksReset_freePages (s : State) (moment : ResetMoment) (straps : BitVec 2) :
    (blocksReset s moment straps).freePages = List.range 512 := by
  simp only [blocksReset, State.afterReset]

theorem blocksReset_engine (s : State) (moment : ResetMoment) (straps : BitVec 2) :
    (blocksReset s moment straps).engine = .starting 0 none := rfl

/-- The beginning of a load writes entries, memory, the free list, the alerts and the engine, and nothing else. -/
theorem beginLoad_frame (s : State) (n : Stream) :
    s.beginLoad n = { s with
      entries := (s.beginLoad n).entries, memory := (s.beginLoad n).memory, freePages := (s.beginLoad n).freePages
      alerts := (s.beginLoad n).alerts, engine := (s.beginLoad n).engine } := by
  unfold State.beginLoad
  split
  · next f g fmt hr =>
    rcases allocate_cases s (slotProfile n f g fmt) with ⟨r, ha⟩ | ⟨i, -, -, ha⟩
    · rw [ha]
    · rw [ha]
      dsimp only
      rw [granted_frame]
  · rfl

/-- A lane that has sent n bytes stands inside the message that those bytes end in (R114). -/
theorem cutOff_inside {before after : List OutMessage} {m : OutMessage} {j : Nat} (hj : j < m.encode.length) :
    cutOff (before ++ m :: after) ((before.flatMap OutMessage.encode).length + j) = m.encode.take j := by
  rw [cutOff_append, cutOff, if_pos hj]

/-- A lane that has sent all its messages stands inside none. -/
theorem cutOff_all {ms : List OutMessage} {n : Nat} (h : (ms.flatMap OutMessage.encode).length ≤ n) : cutOff ms n = [] := by
  have e := cutOff_append ms [] (n - (ms.flatMap OutMessage.encode).length)
  rw [List.append_nil, Nat.add_sub_cancel' h] at e
  exact e

/-- The primary address from the straps (R164). -/
theorem primaryAddress_toNat (straps : BitVec 2) :
    (Config.primaryBase + straps.setWidth 7).toNat = 0x2C + straps.toNat := by
  revert straps
  decide

theorem acksAddress_of_group_disabled {s : State} (h : s.groupEnabled = false) (address : BitVec 7) (read : Bool) :
    s.acksAddress address read = decide (address.toNat = s.primaryAddress.toNat) := by
  unfold State.acksAddress
  rw [h, Bool.false_and, Bool.false_and, Bool.false_and, Bool.or_false]
  exact decide_eq_decide.2 BitVec.toNat_inj.symm

/-- The load of a slot that is not PROGRAMMED as read, after the blocks have been reset. -/
theorem beginLoad_blocksReset_none {s : State} {moment : ResetMoment} {straps : BitVec 2}
    (hr : ∀ f g fmt, s.slots[(0 : Stream)].reading ≠ .programmed f g fmt) :
    (blocksReset s moment straps).beginLoad 0 = blocksReset s moment straps := by
  rw [beginLoad_none (s := blocksReset s moment straps) hr, ← blocksReset_engine s moment straps]

/-- The load of slot 0 where it is PROGRAMMED as read: entry 0 and the first pages are granted. -/
theorem beginLoad_blocksReset_granted {s : State} {moment : ResetMoment} {straps : BitVec 2} {f : SlotFields}
    {g : Geometry} {fmt : Format} (hr : s.slots[(0 : Stream)].reading = .programmed f g fmt) :
    (blocksReset s moment straps).beginLoad 0 =
      { granted (blocksReset s moment straps) 0 (slotProfile 0 f g fmt) with engine := .starting 0 (some 0) } := by
  obtain ⟨-, -, hg, -⟩ := reading_programmed hr
  have hpages := pageCount_le (geometryOk_of_geometryOf hg)
  refine beginLoad_granted (s := blocksReset s moment straps) hr (lowestFree_some ?_ ?_) ?_
  · rw [(recordsReset_blocksReset s moment straps).entries]
    rfl
  · intro j hj
    exact absurd hj (Fin.not_lt_zero j)
  · rw [blocksReset_freePages, List.length_range]
    omega

/-- The first pages of the part, as a grant right after a device reset takes them. -/
theorem take_range_pageCount {g : Geometry} (h : GeometryOk g) :
    (List.range 512).take g.pageCount = List.range g.pageCount := by
  have hpages := pageCount_le h
  rw [List.take_range, min_eq_left (by omega)]

/-- With the watermark at 0 no grant raises POOL_LOW (R48). -/
theorem granted_alerts_of_no_watermark {s : State} (i : EntryIndex) (pr : Profile) (h : s.watermark = 0) :
    (granted s i pr).alerts = s.alerts := by
  rw [granted_frame]
  dsimp only
  rw [if_neg]
  omega

/-- Settles O4: the values of `State.reset`, and DEVICE_RESET by what slot 0 reads as. -/
theorem resetLeavesStatedValues : Obligations.ResetLeavesStatedValues := by
  unfold Obligations.ResetLeavesStatedValues
  refine ⟨⟨?_, afterReset_freePages _ _ _ _, rfl, ?_, rfl, rfl, rfl, rfl, rfl, rfl, rfl, rfl, rfl, rfl, rfl, rfl, rfl⟩, ?_⟩
  · intro i
    rw [recordsReset_reset.entries i]
    exact ⟨rfl, rfl, rfl, rfl, rfl, rfl, rfl, rfl, rfl⟩
  · intro n
    refine ⟨recordsReset_reset.views n, recordsReset_reset.lists n, afterReset_points _ _ _ _ n,
      afterReset_ports _ _ _ _ n, Vector.getElem_replicate _, ?_⟩
    fin_cases n <;> rfl
  · intro s moment straps
    have hreset := recordsReset_blocksReset s moment straps
    have hframe := beginLoad_frame (blocksReset s moment straps) 0
    have haddress := primaryAddress_toNat straps
    refine ⟨_, exec_deviceReset s moment straps, ?_⟩
    refine ⟨by rw [hframe]; rfl, by rw [hframe]; rfl, by rw [hframe]; rfl, by rw [hframe]; rfl, by rw [hframe]; rfl,
      by rw [hframe]; rfl, by rw [hframe]; exact haddress, ?_, ?_, by rw [hframe]; rfl, by rw [hframe]; rfl,
      by rw [hframe]; rfl, by rw [hframe]; rfl, by rw [hframe]; rfl, by rw [hframe]; rfl, by rw [hframe]; rfl, ?_,
      by rw [hframe]; rfl, by rw [hframe]; rfl, ?_, ?_⟩
    · intro address read
      rw [acksAddress_of_group_disabled (by rw [hframe]; rfl)]
      rw [hframe]
      exact decide_eq_decide.2 (Eq.congr_right haddress)
    · intro n
      have hport : ((blocksReset s moment straps).beginLoad 0).ports[n] =
          s.ports[n].afterReset (sentBy moment.sent n) := by
        rw [hframe]
        exact resetPorts_get s moment.sent n
      refine ⟨by rw [hframe]; exact hreset.views n, by rw [hframe]; exact hreset.lists n,
        by rw [hframe]; exact afterReset_points moment.levels straps s.slots s.pending n, by rw [hport]; rfl, ?_, ?_⟩
      · intro before m after j hout hsent hj
        rw [hport, Port.afterReset, hout, hsent]
        exact cutOff_inside hj
      · intro hall
        rw [hport]
        exact cutOff_all hall
    · cases hr : s.slots[(0 : Stream)].reading with
      | blank =>
        rw [beginLoad_blocksReset_none (reading_ne_programmed_of_blank hr)]
        rfl
      | spoiled why =>
        rw [beginLoad_blocksReset_none (reading_ne_programmed_of_spoiled hr)]
        rfl
      | programmed f g fmt =>
        rw [beginLoad_blocksReset_granted hr]
        exact granted_alerts_of_no_watermark (s := blocksReset s moment straps) 0 (slotProfile 0 f g fmt) rfl
    · intro i hi
      cases hr : s.slots[(0 : Stream)].reading with
      | blank =>
        rw [beginLoad_blocksReset_none (reading_ne_programmed_of_blank hr)]
        exact hreset.entries i
      | spoiled why =>
        rw [beginLoad_blocksReset_none (reading_ne_programmed_of_spoiled hr)]
        exact hreset.entries i
      | programmed f g fmt =>
        rw [beginLoad_blocksReset_granted hr]
        exact (granted_entry_other (blocksReset s moment straps) 0 i _ hi).trans (hreset.entries i)
    · cases hr : s.slots[(0 : Stream)].reading with
      | blank =>
        rw [beginLoad_blocksReset_none (reading_ne_programmed_of_blank hr)]
        exact ⟨rfl, blocksReset_freePages s moment straps, hreset.entries 0, rfl⟩
      | spoiled why =>
        rw [beginLoad_blocksReset_none (reading_ne_programmed_of_spoiled hr)]
        exact ⟨rfl, blocksReset_freePages s moment straps, hreset.entries 0, rfl⟩
      | programmed f g fmt =>
        obtain ⟨-, -, hg, -⟩ := reading_programmed hr
        have htake : (blocksReset s moment straps).freePages.take (slotProfile 0 f g fmt).geometry.pageCount =
            List.range g.pageCount := by
          rw [blocksReset_freePages]
          exact take_range_pageCount (geometryOk_of_geometryOf hg)
        rw [beginLoad_blocksReset_granted hr]
        refine ⟨rfl, ?_, ?_, ?_⟩
        · rw [granted_frame]
          dsimp only
          rw [blocksReset_freePages]
          rfl
        · have hentry := granted_entry_same (blocksReset s moment straps) 0 (slotProfile 0 f g fmt)
          rw [htake, hreset.entries] at hentry
          exact hentry
        · intro a
          have hm : (blocksReset s moment straps).memory.wf = true := rfl
          by_cases ha : a / 64 < g.pageCount
          · have hread := granted_read_page (i := 0) (pr := slotProfile 0 f g fmt) (page := a / 64) (o := a % 64) hm
              (by rw [htake]; exact List.mem_range.2 ha) (Nat.mod_lt _ (by decide))
            rw [Nat.div_add_mod] at hread
            rw [if_pos ha]
            exact hread
          · have hread := granted_read_other (i := 0) (pr := slotProfile 0 f g fmt) (a := a) hm
              (by rw [htake]; exact mt List.mem_range.1 ha)
            rw [if_neg ha]
            exact hread

end Sys2Proof.ProfileTable

/-! PROOFS. The laws of the records relative to the selections that lookups hold, and what keeps them: entries changed in
place, entries allocated and freed, edits joined and dropped, lists armed and applied, views configured. -/

namespace Sys2Proof.ProfileTable

open Sys2Proof Sys2Proof.Machine Sys2Proof.Safety

/-! ### What R2's table says of an entry -/

section EntryTable

variable {e : Entry}

theorem entryOk_free (h : EntryOk e) (hst : e.state = .free) : e = Entry.freed e.revision := by
  simpa only [EntryOk, hst] using h

theorem entryOk_loading (h : EntryOk e) (hst : e.state = .loading) :
    AllocatedOk e ∧ e.checkValue = none ∧ e.damaged = false ∧ e.membership = 0 ∧ e.pendingRefs = 0 ∧ e.lookupRefs = 0 := by
  simpa only [EntryOk, hst] using h

theorem entryOk_staged (h : EntryOk e) (hst : e.state = .staged) :
    AllocatedOk e ∧ e.checkValue.isSome ∧ e.membership = 0 := by
  simpa only [EntryOk, hst] using h

theorem entryOk_live (h : EntryOk e) (hst : e.state = .live) : AllocatedOk e ∧ e.checkValue.isSome ∧ e.membership ≠ 0 := by
  simpa only [EntryOk, hst] using h

theorem entryOk_draining (h : EntryOk e) (hst : e.state = .draining) :
    AllocatedOk e ∧ e.checkValue.isSome ∧ e.membership = 0 ∧ e.pendingRefs = 0 ∧ 1 ≤ e.lookupRefs := by
  simpa only [EntryOk, hst] using h

/-- What nothing refers to and no view holds, in a FREE entry. -/
theorem entryOk_free_counts (h : EntryOk e) (hst : e.state = .free) :
    e.membership = 0 ∧ e.pendingRefs = 0 ∧ e.lookupRefs = 0 := by
  rw [entryOk_free h hst]
  exact ⟨rfl, rfl, rfl⟩

/-- Only a LIVE entry is a member of a view. -/
theorem entryOk_live_of_membership (h : EntryOk e) (hm : e.membership ≠ 0) : e.state = .live := by
  cases hst : e.state with
  | free => exact absurd (entryOk_free_counts h hst).1 hm
  | loading => exact absurd (entryOk_loading h hst).2.2.2.1 hm
  | staged => exact absurd (entryOk_staged h hst).2.2 hm
  | live => rfl
  | draining => exact absurd (entryOk_draining h hst).2.2.1 hm

/-- Only a STAGED or LIVE entry is named by an edit. -/
theorem entryOk_staged_or_live_of_pending (h : EntryOk e) (hp : e.pendingRefs ≠ 0) :
    e.state = .staged ∨ e.state = .live := by
  cases hst : e.state with
  | free => exact absurd (entryOk_free_counts h hst).2.1 hp
  | loading => exact absurd (entryOk_loading h hst).2.2.2.2.1 hp
  | staged => exact Or.inl rfl
  | live => exact Or.inr rfl
  | draining => exact absurd (entryOk_draining h hst).2.2.2.1 hp

/-- An entry named by an edit or held by a view is STAGED or LIVE. -/
theorem entryOk_staged_or_live (h : EntryOk e) (hu : e.membership ≠ 0 ∨ e.pendingRefs ≠ 0) :
    e.state = .staged ∨ e.state = .live := by
  rcases hu with hm | hp
  · exact Or.inr (entryOk_live_of_membership h hm)
  · exact entryOk_staged_or_live_of_pending h hp

/-- The law of a STAGED or LIVE entry. -/
theorem entryOk_of_staged_or_live (hst : e.state = .staged ∨ e.state = .live) :
    EntryOk e ↔ AllocatedOk e ∧ e.checkValue.isSome ∧ (e.state = .live ↔ e.membership ≠ 0) := by
  rcases hst with hst | hst <;> simp [EntryOk, hst]

/-- Damage leaves a STAGED, LIVE or DRAINING entry in its row of the table. -/
theorem entryOk_damaged (h : EntryOk e) (hst : e.state = .staged ∨ e.state = .live ∨ e.state = .draining) :
    EntryOk { e with damaged := true } := by
  unfold EntryOk at h ⊢
  rcases hst with hst | hst | hst <;> simp only [hst] at h ⊢ <;> exact h

end EntryTable

/-! ### The laws relative to the selections held -/

/-- A selection that a lookup may hold (R62): its entries distinct, its handles current. -/
def SelectionOk (s : State) (sel : Selection) : Prop :=
  sel.sources.Nodup ∧ (∀ h ∈ sel.anchorA, HandleCurrent s h) ∧ ∀ h ∈ sel.anchorB, HandleCurrent s h

/-- The number of selections that name entry i. -/
def holding (held : List Selection) (i : EntryIndex) : Nat := held.countP (fun sel => sel.sources.contains i)

/-- RecordLaw but for the engine's part, with the selections that accepted lookups hold given as a list: what a state is
between the updates of one event. -/
structure HeldLaw (s : State) (held : List Selection) : Prop where
  entryOk : ∀ i : EntryIndex, EntryOk s.entries[i]
  pending : ∀ i : EntryIndex, s.entries[i].pendingRefs = editsNaming s i
  lookups : ∀ i : EntryIndex, s.entries[i].lookupRefs = holding held i
  members : MembershipLaw s
  layouts : ∀ n : Stream, LayoutLawOf s n
  edits : ∀ n : Stream, ∀ e ∈ s.lists[n].edits, HandleCurrent s e.handle
  selections : ∀ sel ∈ held, SelectionOk s sel

/-- The selections of the lookups accepted on port p. -/
def selectionsAt (s : State) (p : Stream) : List Selection := s.ports[p].queue.map Lookup.selection

/-- The selections of every accepted lookup. -/
def selectionsHeld (s : State) : List Selection := allStreams.flatMap (selectionsAt s)

theorem mem_selectionsHeld {s : State} {sel : Selection} :
    sel ∈ selectionsHeld s ↔ ∃ p : Stream, ∃ l ∈ s.ports[p].queue, l.selection = sel := by
  simp [selectionsHeld, selectionsAt, mem_allStreams]

theorem holding_selectionsHeld (s : State) (i : EntryIndex) : holding (selectionsHeld s) i = lookupsNaming s i := by
  unfold holding selectionsHeld lookupsNaming selectionsAt
  rw [List.countP_flatMap]
  simp only [Function.comp_def, List.countP_map]

/-- The laws of the records are those relative to the selections held, and the engine's. -/
theorem recordLaw_iff {s : State} : RecordLaw s ↔ HeldLaw s (selectionsHeld s) ∧ EngineLaw s := by
  constructor
  · rintro ⟨hentry, href, hmember, hlayout, hedit, hengine, hlookup⟩
    refine ⟨⟨hentry, fun i => (href i).1, ?_, hmember, hlayout, hedit, ?_⟩, hengine⟩
    · intro i
      rw [holding_selectionsHeld]
      exact (href i).2
    · intro sel hsel
      obtain ⟨p, l, hl, rfl⟩ := mem_selectionsHeld.1 hsel
      exact hlookup p l hl
  · rintro ⟨h, hengine⟩
    refine ⟨h.entryOk, ?_, h.members, h.layouts, h.edits, hengine, ?_⟩
    · intro i
      rw [← holding_selectionsHeld]
      exact ⟨h.pending i, h.lookups i⟩
    · intro p l hl
      exact h.selections _ (mem_selectionsHeld.2 ⟨p, l, hl, rfl⟩)

theorem holding_perm {held held' : List Selection} (h : held.Perm held') (i : EntryIndex) :
    holding held i = holding held' i := h.countP_eq _

theorem HeldLaw.perm {s : State} {held held' : List Selection} (h : HeldLaw s held) (hp : held.Perm held') :
    HeldLaw s held' :=
  { h with
    lookups := fun i => (h.lookups i).trans (holding_perm hp i)
    selections := fun sel hsel => h.selections sel (hp.mem_iff.2 hsel) }

theorem holding_pos {held : List Selection} {sel : Selection} {i : EntryIndex} (hs : sel ∈ held)
    (hi : i ∈ sel.sources) : 0 < holding held i := by
  unfold holding
  rw [List.countP_pos_iff]
  exact ⟨sel, hs, by simpa using hi⟩

/-- The entries a selection names are those of its anchors. -/
theorem mem_sources {sel : Selection} {i : EntryIndex} :
    i ∈ sel.sources ↔ (∃ h ∈ sel.anchorA, h.index = i) ∨ ∃ h ∈ sel.anchorB, h.index = i := by
  cases sel <;> simp [Selection.sources, Selection.anchorA, Selection.anchorB, eq_comm]

/-! ### The pending lists of the four streams -/

theorem editsNaming_eq (s : State) (i : EntryIndex) :
    editsNaming s i = (allStreams.map (fun n => naming s.lists[n].edits i)).sum := rfl

/-- An edit in a list counts towards its entry. -/
theorem naming_le_editsNaming (s : State) (n : Stream) (i : EntryIndex) :
    naming s.lists[n].edits i ≤ editsNaming s i := by
  rw [editsNaming_eq]
  exact List.le_sum_of_mem (List.mem_map.2 ⟨n, mem_allStreams n, rfl⟩)

/-- One list changed, what names an entry changes by that list's part. -/
theorem editsNaming_set {s t : State} {n : Stream} {l : EditList} (h : t.lists = s.lists.set n l) (i : EntryIndex) :
    editsNaming t i + naming s.lists[n].edits i = editsNaming s i + naming l.edits i := by
  rw [editsNaming_eq, editsNaming_eq, h]
  fin_cases n <;> (simp [allStreams, naming]; omega)

theorem editsNaming_congr {s t : State} (h : t.lists = s.lists) (i : EntryIndex) : editsNaming t i = editsNaming s i := by
  rw [editsNaming_eq, editsNaming_eq, h]

/-! ### Layouts (R54) -/

theorem fits_congr {e e' : Entry} (h : e'.profile = e.profile) (c : ViewConfig) : e'.fits c = e.fits c := by
  unfold Entry.fits
  rw [h]

/-- A valid layout, condition by condition. -/
theorem layoutFault_eq_none {s : State} {c : ViewConfig} {as : List Anchor} :
    s.layoutFault c as = none ↔ as.length ≤ 8 ∧ crowdedPair as = none ∧ distinctEntries as = true ∧
      ∀ a ∈ as, s.entries[a.handle.index].fits c = true := by
  unfold State.layoutFault
  by_cases hlen : 8 < as.length
  · simp [hlen]
  · cases hcrowd : crowdedPair as with
    | some ab => simp [hlen]
    | none => cases hdist : distinctEntries as <;> simp [Nat.not_lt.1 hlen, hlen]

/-- Whether a layout is valid goes by the grids and formats of the entries it names. -/
theorem layoutFault_congr {s t : State} {c : ViewConfig} {as : List Anchor}
    (h : ∀ a ∈ as, t.entries[a.handle.index].profile = s.entries[a.handle.index].profile) :
    s.layoutFault c as = none → t.layoutFault c as = none := by
  rw [layoutFault_eq_none, layoutFault_eq_none]
  rintro ⟨hlen, hcrowd, hdist, hfit⟩
  refine ⟨hlen, hcrowd, hdist, ?_⟩
  intro a ha
  rw [fits_congr (h a ha)]
  exact hfit a ha

theorem layoutFault_nil (s : State) (c : ViewConfig) : s.layoutFault c [] = none :=
  layoutFault_eq_none.2 ⟨Nat.zero_le 8, rfl, rfl, fun _ ha => absurd ha List.not_mem_nil⟩

/-- What a projected view holds is held by the view or named by an edit. -/
theorem holds_applyEdits (es : List Edit) {as : List Anchor} {i : EntryIndex} (h : Holds (applyEdits as es) i) :
    Holds as i ∨ ∃ e ∈ es, e.handle.index = i := by
  induction es generalizing as with
  | nil => exact Or.inl h
  | cons e es ih =>
    rcases ih h with h | ⟨f, hf, hi⟩
    · cases e with
      | attach hd k p =>
        rcases holds_attach.1 h with hi | h
        · exact Or.inr ⟨_, List.mem_cons_self, hi⟩
        · exact Or.inl h
      | detach hd => exact Or.inl (holds_detach.1 h).2
      | move hd k p => exact Or.inl (holds_move.1 h)
    · exact Or.inr ⟨f, List.mem_cons_of_mem _ hf, hi⟩

/-! ### What the laws say together -/

section Facts

variable {s : State} {held : List Selection}

theorem HeldLaw.pending_pos (h : HeldLaw s held) {n : Stream} {e : Edit} (he : e ∈ s.lists[n].edits) :
    s.entries[e.handle.index].pendingRefs ≠ 0 := by
  have h1 := naming_pos.2 ⟨e, he, rfl⟩
  have h2 := naming_le_editsNaming s n e.handle.index
  rw [h.pending]
  omega

theorem HeldLaw.membership_ne_zero (h : HeldLaw s held) {n : Stream} {i : EntryIndex} (ha : Holds s.views[n].anchors i) :
    s.entries[i].membership ≠ 0 := by
  intro h0
  have := (membership_iff_holds h.members n i).2 ha
  rw [mask_eq_zero_iff.1 h0 n] at this
  cases this

/-- Every anchor of a view names a LIVE entry. -/
theorem HeldLaw.live (h : HeldLaw s held) {n : Stream} {a : Anchor} (ha : a ∈ s.views[n].anchors) :
    s.entries[a.handle.index].state = .live :=
  entryOk_live_of_membership (h.entryOk _) (h.membership_ne_zero ⟨a, ha, rfl⟩)

/-- What a projected view holds is named by an edit or held by a view. -/
theorem HeldLaw.projected_used (h : HeldLaw s held) {n : Stream} {i : EntryIndex} (hp : Holds (s.projected n) i) :
    s.entries[i].membership ≠ 0 ∨ s.entries[i].pendingRefs ≠ 0 := by
  rcases holds_applyEdits _ hp with ha | ⟨e, he, rfl⟩
  · exact Or.inl (h.membership_ne_zero ha)
  · exact Or.inr (h.pending_pos he)

theorem HeldLaw.lookups_pos (h : HeldLaw s held) {sel : Selection} {i : EntryIndex} (hs : sel ∈ held)
    (hi : i ∈ sel.sources) : s.entries[i].lookupRefs ≠ 0 := by
  have := holding_pos hs hi
  rw [h.lookups]
  omega

/-- The anchors of a view name distinct entries. -/
theorem HeldLaw.distinct (h : HeldLaw s held) (n : Stream) : distinctEntries s.views[n].anchors = true := by
  have hl := h.layouts n
  unfold LayoutLawOf at hl
  split at hl
  · rw [hl.1]
    rfl
  · exact (layoutFault_eq_none.1 hl.2.1).2.2.1

end Facts

/-! ### Entries changed in place -/

/-- An entry changed so that nothing which edits and views see of it changes. -/
def Steady (e e' : Entry) : Prop :=
  e'.revision = e.revision ∧ e'.membership = e.membership ∧ e'.pendingRefs = e.pendingRefs ∧
    (e.membership ≠ 0 ∨ e.pendingRefs ≠ 0 → e'.profile = e.profile)

theorem Steady.refl (e : Entry) : Steady e e := ⟨rfl, rfl, rfl, fun _ => rfl⟩

theorem selectionOk_congr {s t : State} (hrev : ∀ i : EntryIndex, t.entries[i].revision = s.entries[i].revision)
    {sel : Selection} (h : SelectionOk s sel) : SelectionOk t sel := by
  obtain ⟨hnodup, hA, hB⟩ := h
  exact ⟨hnodup, fun h hh => (hrev _).trans (hA h hh), fun h hh => (hrev _).trans (hB h hh)⟩

/-- A layout law goes by the stream's view and list, and by the grids of the entries that edits and views use. -/
theorem layoutLawOf_congr {s t : State} {held : List Selection} (h : HeldLaw s held) {n : Stream}
    (hv : t.views[n] = s.views[n]) (hl : t.lists[n] = s.lists[n])
    (hprofile : ∀ i : EntryIndex, s.entries[i].membership ≠ 0 ∨ s.entries[i].pendingRefs ≠ 0 →
      t.entries[i].profile = s.entries[i].profile) : LayoutLawOf t n := by
  have hproj : t.projected n = s.projected n := by
    unfold State.projected
    rw [hv, hl]
  have hlaw := h.layouts n
  unfold LayoutLawOf at hlaw ⊢
  rw [hv, hl, hproj]
  cases hc : s.views[n].config with
  | none => simpa only [hc] using hlaw
  | some c =>
    rw [hc] at hlaw
    obtain ⟨hgrid, hvalid, harmed, hdist⟩ := hlaw
    refine ⟨hgrid, layoutFault_congr ?_ hvalid, fun ht => layoutFault_congr ?_ (harmed ht), hdist⟩
    · intro a ha
      exact hprofile _ (Or.inl (h.membership_ne_zero ⟨a, ha, rfl⟩))
    · intro a ha
      exact hprofile _ (h.projected_used ⟨a, ha, rfl⟩)

/-- Entries changed in place keep the laws, for the selections that their lookup references count. -/
theorem HeldLaw.steady {s t : State} {held held' : List Selection} (h : HeldLaw s held) (hv : t.views = s.views)
    (hl : t.lists = s.lists) (hs : ∀ i : EntryIndex, Steady s.entries[i] t.entries[i])
    (hok : ∀ i : EntryIndex, EntryOk t.entries[i])
    (hlook : ∀ i : EntryIndex, t.entries[i].lookupRefs = holding held' i)
    (hsel : ∀ sel ∈ held', SelectionOk s sel) : HeldLaw t held' := by
  have hrev : ∀ i : EntryIndex, t.entries[i].revision = s.entries[i].revision := fun i => (hs i).1
  refine ⟨hok, ?_, hlook, ?_, ?_, ?_, fun sel hs => selectionOk_congr hrev (hsel sel hs)⟩
  · intro i
    rw [(hs i).2.2.1, h.pending, editsNaming_congr hl]
  · intro n
    rw [hv]
    refine ⟨fun i => ?_, fun a ha => (hrev _).trans ((h.members n).2 a ha)⟩
    rw [(hs i).2.1]
    exact (h.members n).1 i
  · intro n
    exact layoutLawOf_congr h (by rw [hv]) (by rw [hl]) (fun i => (hs i).2.2.2)
  · intro n e he
    rw [hl] at he
    exact (hrev _).trans (h.edits n e he)

/-- The laws relative to held selections go by entries, views and lists. -/
theorem HeldLaw.congr {s t : State} {held : List Selection} (h : HeldLaw s held) (he : t.entries = s.entries)
    (hv : t.views = s.views) (hl : t.lists = s.lists) : HeldLaw t held := by
  refine h.steady hv hl ?_ ?_ ?_ h.selections
  · intro i
    rw [he]
    exact Steady.refl _
  · intro i
    rw [he]
    exact h.entryOk i
  · intro i
    rw [he]
    exact h.lookups i

theorem getElem_set_same {α : Type} {k : Nat} (v : Vector α k) (i : Fin k) (x : α) : (v.set i x)[i] = x := by
  simp only [Fin.getElem_fin, Vector.getElem_set_self]

theorem getElem_set_other {α : Type} {k : Nat} (v : Vector α k) {i j : Fin k} (x : α) (h : j ≠ i) :
    (v.set i x)[j] = v[j] := by
  have h' : i.val ≠ j.val := fun e => h (Fin.ext e.symm)
  simp only [Fin.getElem_fin, Vector.getElem_set, if_neg h']

/-- One entry changed in place, its lookup references kept, keeps the laws. -/
theorem HeldLaw.setEntry {s t : State} {held : List Selection} (h : HeldLaw s held) {i : EntryIndex} {e : Entry}
    (he : t.entries = s.entries.set i e) (hv : t.views = s.views) (hl : t.lists = s.lists)
    (hs : Steady s.entries[i] e) (hok : EntryOk e) (hlook : e.lookupRefs = s.entries[i].lookupRefs) :
    HeldLaw t held := by
  have hall : ∀ P : EntryIndex → Entry → Prop, P i e → (∀ j : EntryIndex, j ≠ i → P j s.entries[j]) →
      ∀ j : EntryIndex, P j t.entries[j] := by
    intro P h1 h2 j
    rw [he]
    by_cases hj : j = i
    · subst hj
      rw [getElem_set_same]
      exact h1
    · rw [getElem_set_other _ _ hj]
      exact h2 j hj
  refine h.steady hv hl ?_ ?_ ?_ h.selections
  · exact hall (fun j x => Steady s.entries[j] x) hs (fun j _ => Steady.refl _)
  · exact hall (fun _ x => EntryOk x) hok (fun j _ => h.entryOk j)
  · exact hall (fun j x => x.lookupRefs = holding held j) (hlook.trans (h.lookups i)) (fun j _ => h.lookups j)

/-- An entry that nothing refers to and no view holds is freed. -/
theorem HeldLaw.freeEntry {s : State} {held : List Selection} (h : HeldLaw s held) {i : EntryIndex}
    (hm : s.entries[i].membership = 0) (hp : s.entries[i].pendingRefs = 0) (hl : s.entries[i].lookupRefs = 0) :
    HeldLaw (s.freeEntry i) held := by
  refine h.setEntry (i := i) (e := Entry.freed s.entries[i].revision) rfl rfl rfl ?_ (entryOk_freed _) hl.symm
  refine ⟨rfl, hm.symm, hp.symm, ?_⟩
  rintro (hne | hne)
  · exact absurd hm hne
  · exact absurd hp hne

/-- A LOADING entry whose check agrees is STAGED with its check value (R9, R10). -/
theorem HeldLaw.stage {s : State} {held : List Selection} (h : HeldLaw s held) {i : EntryIndex} (c : Word)
    (hst : s.entries[i].state = .loading) :
    HeldLaw (s.setEntry i { s.entries[i] with state := .staged, checkValue := some c }) held := by
  obtain ⟨hall, -, -, hm, -, -⟩ := entryOk_loading (h.entryOk i) hst
  exact h.setEntry rfl rfl rfl ⟨rfl, rfl, rfl, fun _ => rfl⟩ ⟨hall, rfl, hm⟩ rfl

/-- A report of damage marks an entry and changes nothing that the laws see (R21). -/
theorem HeldLaw.reportDamage {s : State} {held : List Selection} (h : HeldLaw s held) (i : EntryIndex) :
    HeldLaw (s.reportDamage i) held := by
  rw [reportDamage_eq]
  unfold damageReported
  split
  · next hst =>
    refine h.setEntry (i := i) (e := { s.entries[i] with damaged := true }) rfl rfl rfl ⟨rfl, rfl, rfl, fun _ => rfl⟩
      ?_ rfl
    exact entryOk_damaged (h.entryOk i) hst
  · exact h

/-! ### An entry allocated (R6) -/

/-- A grant to a FREE entry keeps the laws. -/
theorem HeldLaw.granted {s : State} {held : List Selection} (h : HeldLaw s held) {i : EntryIndex} {pr : Profile}
    (hi : s.entries[i].state = .free) (hgrid : GeometryOk pr.geometry)
    (hp : pr.geometry.pageCount ≤ s.freePages.length) : HeldLaw (granted s i pr) held := by
  obtain ⟨hm0, hp0, hl0⟩ := entryOk_free_counts (h.entryOk i) hi
  have hsame := granted_entry_same s i pr
  have hother := fun j hj => granted_entry_other s i j pr hj
  have hviews : (ProfileTable.granted s i pr).views = s.views := by rw [granted_frame]
  have hlists : (ProfileTable.granted s i pr).lists = s.lists := by rw [granted_frame]
  have hrev : ∀ j : EntryIndex, j ≠ i →
      (ProfileTable.granted s i pr).entries[j].revision = s.entries[j].revision := fun j hj => by rw [hother j hj]
  have hunused : ∀ (j : EntryIndex), s.entries[j].membership ≠ 0 ∨ s.entries[j].pendingRefs ≠ 0 → j ≠ i := by
    rintro j hj rfl
    rcases hj with hj | hj
    · exact hj hm0
    · exact hj hp0
  have hcounts : ∀ j : EntryIndex, (ProfileTable.granted s i pr).entries[j].membership = s.entries[j].membership ∧
      (ProfileTable.granted s i pr).entries[j].pendingRefs = s.entries[j].pendingRefs ∧
      (ProfileTable.granted s i pr).entries[j].lookupRefs = s.entries[j].lookupRefs := by
    intro j
    by_cases hj : j = i
    · subst hj
      rw [hsame, hm0, hp0, hl0]
      exact ⟨rfl, rfl, rfl⟩
    · rw [hother j hj]
      exact ⟨rfl, rfl, rfl⟩
  refine ⟨?_, ?_, ?_, ?_, ?_, ?_, ?_⟩
  · intro j
    by_cases hj : j = i
    · subst hj
      rw [hsame]
      refine ⟨⟨pr, rfl, hgrid, ?_⟩, rfl, rfl, rfl, rfl, rfl⟩
      exact List.length_take_of_le hp
    · rw [hother j hj]
      exact h.entryOk j
  · intro j
    rw [(hcounts j).2.1, h.pending, editsNaming_congr hlists]
  · intro j
    rw [(hcounts j).2.2, h.lookups]
  · intro n
    rw [hviews]
    refine ⟨fun j => ?_, fun a ha => ?_⟩
    · rw [(hcounts j).1]
      exact (h.members n).1 j
    · exact (hrev _ (hunused _ (Or.inl (h.membership_ne_zero ⟨a, ha, rfl⟩)))).trans ((h.members n).2 a ha)
  · intro n
    exact layoutLawOf_congr h (by rw [hviews]) (by rw [hlists]) (fun j hj => by rw [hother j (hunused j hj)])
  · intro n e he
    rw [hlists] at he
    exact (hrev _ (hunused _ (Or.inr (h.pending_pos he)))).trans (h.edits n e he)
  · intro sel hsel
    obtain ⟨hnodup, hA, hB⟩ := h.selections sel hsel
    have hne : ∀ j ∈ sel.sources, j ≠ i := by
      rintro j hj rfl
      exact h.lookups_pos hsel hj hl0
    exact ⟨hnodup,
      fun hd hh => (hrev _ (hne _ (mem_sources.2 (Or.inl ⟨hd, hh, rfl⟩)))).trans (hA hd hh),
      fun hd hh => (hrev _ (hne _ (mem_sources.2 (Or.inr ⟨hd, hh, rfl⟩)))).trans (hB hd hh)⟩

end Sys2Proof.ProfileTable

/-! PROOFS. The laws of the records under edits, commits, applies and the configuration of views. -/

namespace Sys2Proof.ProfileTable

open Sys2Proof Sys2Proof.Machine Sys2Proof.Safety

/-! ### Anchor lists with distinct entries (R68) -/

theorem distinctEntries_iff {as : List Anchor} :
    distinctEntries as = true ↔ (as.map (fun a => a.handle.index)).Nodup := by
  induction as with
  | nil => simp [distinctEntries]
  | cons a as ih =>
    simp only [distinctEntries, Bool.and_eq_true, ih, List.map_cons, List.nodup_cons, List.mem_map, List.all_eq_true,
      decide_eq_true_eq, not_exists, not_and]

theorem insertAnchor_perm (a : Anchor) (as : List Anchor) : (insertAnchor a as).Perm (a :: as) := by
  induction as with
  | nil => exact List.Perm.refl _
  | cons b bs ih =>
    unfold insertAnchor
    split
    · exact (ih.cons b).trans (List.Perm.swap a b bs)
    · exact List.Perm.refl _

/-- An anchor for a new entry keeps entries distinct. -/
theorem distinctEntries_insertAnchor {a : Anchor} {as : List Anchor} (h : distinctEntries as = true)
    (ha : ¬ Holds as a.handle.index) : distinctEntries (insertAnchor a as) = true := by
  rw [distinctEntries_iff] at h ⊢
  rw [((insertAnchor_perm a as).map _).nodup_iff, List.map_cons, List.nodup_cons]
  refine ⟨?_, h⟩
  rw [List.mem_map]
  rintro ⟨b, hb, hi⟩
  exact ha ⟨b, hb, hi⟩

theorem distinctEntries_removeAnchor {as : List Anchor} (i : EntryIndex) (h : distinctEntries as = true) :
    distinctEntries (removeAnchor i as) = true := by
  rw [distinctEntries_iff] at h ⊢
  exact h.sublist ((List.filter_sublist).map _)

/-- An edit keeps entries distinct, an ATTACH where the list has no anchor for its entry. -/
theorem distinctEntries_applyEdit {as : List Anchor} {e : Edit} (h : distinctEntries as = true)
    (ha : ∀ hd k p, e = .attach hd k p → ¬ Holds as hd.index) : distinctEntries (applyEdit as e) = true := by
  cases e with
  | attach hd k p => exact distinctEntries_insertAnchor h (ha hd k p rfl)
  | detach hd => exact distinctEntries_removeAnchor _ h
  | move hd k p =>
    cases hf : findAnchor hd.index as with
    | none => rwa [applyEdit_move_none hf]
    | some a =>
      rw [applyEdit_move_some hf]
      apply distinctEntries_insertAnchor (distinctEntries_removeAnchor _ h)
      rintro ⟨b, hb, hi⟩
      exact (mem_removeAnchor.1 hb).2 (hi.trans (findAnchor_some hf).2)

/-- The handles of a projected view are the view's and those of its edits. -/
theorem handle_of_mem_applyEdit {as : List Anchor} {e : Edit} {a : Anchor} (h : a ∈ applyEdit as e) :
    (∃ b ∈ as, b.handle = a.handle) ∨ e.handle = a.handle := by
  cases e with
  | attach hd k p =>
    rcases mem_insertAnchor.1 h with rfl | h
    · exact Or.inr rfl
    · exact Or.inl ⟨a, h, rfl⟩
  | detach hd => exact Or.inl ⟨a, (mem_removeAnchor.1 h).1, rfl⟩
  | move hd k p =>
    cases hf : findAnchor hd.index as with
    | none =>
      rw [applyEdit_move_none hf] at h
      exact Or.inl ⟨a, h, rfl⟩
    | some b =>
      rw [applyEdit_move_some hf] at h
      rcases mem_insertAnchor.1 h with rfl | h
      · exact Or.inl ⟨b, (findAnchor_some hf).1, rfl⟩
      · exact Or.inl ⟨a, (mem_removeAnchor.1 h).1, rfl⟩

theorem handle_of_mem_applyEdits (es : List Edit) {as : List Anchor} {a : Anchor} (h : a ∈ applyEdits as es) :
    (∃ b ∈ as, b.handle = a.handle) ∨ ∃ e ∈ es, e.handle = a.handle := by
  induction es generalizing as with
  | nil => exact Or.inl ⟨a, h, rfl⟩
  | cons e es ih =>
    rcases ih h with ⟨b, hb, hab⟩ | ⟨f, hf, hi⟩
    · rcases handle_of_mem_applyEdit hb with ⟨c, hc, hcb⟩ | hi
      · exact Or.inl ⟨c, hc, hcb.trans hab⟩
      · exact Or.inr ⟨e, List.mem_cons_self, hi.trans hab⟩
    · exact Or.inr ⟨f, List.mem_cons_of_mem _ hf, hi⟩

/-! ### The layout law of one stream -/

/-- The layout law of a CONFIGURED view. -/
theorem layoutLawOf_some {s : State} {n : Stream} {c : ViewConfig} (hc : s.views[n].config = some c) :
    LayoutLawOf s n ↔ GeometryOk c.geometry ∧ s.layoutFault c s.views[n].anchors = none ∧
      (s.lists[n].target.isSome → s.layoutFault c (s.projected n) = none) ∧ distinctEntries (s.projected n) = true := by
  unfold LayoutLawOf
  simp only [hc]

/-- The layout law of an UNCONFIGURED view. -/
theorem layoutLawOf_none {s : State} {n : Stream} (hc : s.views[n].config = none) :
    LayoutLawOf s n ↔ s.views[n].anchors = [] ∧ s.lists[n] = EditList.reset := by
  unfold LayoutLawOf
  simp only [hc]

/-- A list that holds edits or a target belongs to a CONFIGURED view. -/
theorem configured_of_list {s : State} {n : Stream} (h : LayoutLawOf s n) (hl : s.lists[n] ≠ EditList.reset) :
    ∃ c, s.views[n].config = some c := by
  cases hc : s.views[n].config with
  | none => exact absurd ((layoutLawOf_none hc).1 h).2 hl
  | some c => exact ⟨c, rfl⟩

/-- An ARMED list belongs to a CONFIGURED view, and its projected layout is valid (R79). -/
theorem armed_projected {s : State} {n : Stream} {T : Word} (h : LayoutLawOf s n) (ht : s.lists[n].target = some T) :
    ∃ c, s.views[n].config = some c ∧ s.layoutFault c (s.projected n) = none := by
  obtain ⟨c, hc⟩ := configured_of_list h (fun e => by rw [e] at ht; cases ht)
  obtain ⟨-, -, harmed, -⟩ := (layoutLawOf_some hc).1 h
  exact ⟨c, hc, harmed (by rw [ht]; rfl)⟩

/-! ### One pending list changed -/

/-- An entry changed in its pending references alone stays in its row of the table, if it is STAGED or LIVE while it holds
any. -/
theorem entryOk_pending {e : Entry} {k : Nat} (h : EntryOk e) (hk : k ≠ 0 → e.state = .staged ∨ e.state = .live) :
    EntryOk { e with pendingRefs := k } := by
  by_cases hst : e.state = .staged ∨ e.state = .live
  · exact (entryOk_of_staged_or_live (e := { e with pendingRefs := k }) hst).2 ((entryOk_of_staged_or_live hst).1 h)
  · have hk0 : k = 0 := by
      by_contra hne
      exact hst (hk hne)
    have hp0 : e.pendingRefs = 0 := by
      by_contra hne
      exact hst (entryOk_staged_or_live_of_pending h hne)
    have heq : { e with pendingRefs := k } = e := by
      rw [hk0, ← hp0]
    rw [heq]
    exact h

/-- One list changed, with the pending references of the entries it names. -/
theorem HeldLaw.relist {s t : State} {held : List Selection} (h : HeldLaw s held) {n : Stream} {l : EditList}
    (hl : t.lists = s.lists.set n l) (hv : t.views = s.views)
    (hent : ∀ i : EntryIndex, t.entries[i] = { s.entries[i] with pendingRefs := t.entries[i].pendingRefs })
    (hpend : ∀ i : EntryIndex,
      t.entries[i].pendingRefs + naming s.lists[n].edits i = s.entries[i].pendingRefs + naming l.edits i)
    (hstate : ∀ i : EntryIndex, t.entries[i].pendingRefs ≠ 0 → s.entries[i].state = .staged ∨ s.entries[i].state = .live)
    (hcur : ∀ e ∈ l.edits, HandleCurrent s e.handle) (hlay : LayoutLawOf t n) : HeldLaw t held := by
  have hrev : ∀ i : EntryIndex, t.entries[i].revision = s.entries[i].revision := fun i => by rw [hent i]
  have hprofile : ∀ i : EntryIndex, t.entries[i].profile = s.entries[i].profile := fun i => by rw [hent i]
  refine ⟨?_, ?_, ?_, ?_, ?_, ?_, ?_⟩
  · intro i
    rw [hent i]
    exact entryOk_pending (h.entryOk i) (hstate i)
  · intro i
    have h1 := editsNaming_set hl i
    have h2 := hpend i
    have h3 := h.pending i
    omega
  · intro i
    rw [hent i]
    exact h.lookups i
  · intro m
    rw [hv]
    refine ⟨fun i => ?_, fun a ha => (hrev _).trans ((h.members m).2 a ha)⟩
    rw [hent i]
    exact (h.members m).1 i
  · intro m
    by_cases hm : m = n
    · subst hm
      exact hlay
    · exact layoutLawOf_congr h (by rw [hv]) (by rw [hl, getElem_set_other _ _ hm]) (fun i _ => hprofile i)
  · intro m e he
    by_cases hm : m = n
    · subst hm
      rw [hl, getElem_set_same] at he
      exact (hrev _).trans (hcur e he)
    · rw [hl, getElem_set_other _ _ hm] at he
      exact (hrev _).trans (h.edits m e he)
  · intro sel hsel
    exact selectionOk_congr hrev (h.selections sel hsel)

/-- Layouts judged alike where every entry keeps its profile. -/
theorem layoutFault_profile {s t : State} (h : ∀ i : EntryIndex, t.entries[i].profile = s.entries[i].profile)
    {c : ViewConfig} {as : List Anchor} (hv : s.layoutFault c as = none) : t.layoutFault c as = none :=
  layoutFault_congr (fun _ _ => h _) hv

/-- A list armed for a target, its projected layout being valid, or disarmed (R76, R85). -/
theorem HeldLaw.retarget {s : State} {held : List Selection} (h : HeldLaw s held) {n : Stream} {target : Option Word}
    (ht : ∀ T, target = some T → ∃ c, s.views[n].config = some c ∧ s.layoutFault c (s.projected n) = none) :
    HeldLaw (s.setList n { s.lists[n] with target := target }) held := by
  refine h.relist (n := n) (l := { s.lists[n] with target := target }) rfl rfl (fun _ => rfl) (fun _ => rfl)
    (fun i hp => entryOk_staged_or_live_of_pending (h.entryOk i) hp) (h.edits n) ?_
  have hlist := setList_get_same s n { s.lists[n] with target := target }
  have hlaw := h.layouts n
  cases hc : s.views[n].config with
  | none =>
    obtain ⟨hanchors, hreset⟩ := (layoutLawOf_none hc).1 hlaw
    refine (layoutLawOf_none (s := s.setList n _) hc).2 ⟨hanchors, ?_⟩
    rw [hlist, hreset]
    cases target with
    | none => rfl
    | some T =>
      obtain ⟨c, hc', -⟩ := ht T rfl
      rw [hc] at hc'
      cases hc'
  | some c =>
    obtain ⟨hgrid, hvalid, -, hdist⟩ := (layoutLawOf_some hc).1 hlaw
    have hproj : (s.setList n { s.lists[n] with target := target }).projected n = s.projected n := by
      unfold State.projected
      rw [hlist]
      rfl
    refine (layoutLawOf_some (s := s.setList n _) hc).2 ⟨hgrid, hvalid, ?_, ?_⟩
    · rw [hlist, hproj]
      intro hsome
      obtain ⟨T, hT⟩ := Option.isSome_iff_exists.1 hsome
      obtain ⟨c', hc', hv⟩ := ht T hT
      rw [hc] at hc'
      cases hc'
      exact hv
    · rw [hproj]
      exact hdist

/-- A list emptied, the pending references of its edits released (R87). -/
theorem HeldLaw.emptyList {s : State} {held : List Selection} (h : HeldLaw s held) (n : Stream) :
    HeldLaw (s.emptyList n) held := by
  have hent := emptyList_entries s n
  have hviews : (s.emptyList n).views = s.views := by rw [emptyList_frame]
  have hlist : (s.emptyList n).lists[n] = { s.lists[n] with edits := [] } := by
    rw [emptyList_lists, if_pos rfl]
  have hprofile : ∀ i : EntryIndex, (s.emptyList n).entries[i].profile = s.entries[i].profile := fun i => by rw [hent i]
  have hlists : (s.emptyList n).lists = s.lists.set n { s.lists[n] with edits := [] } := by
    have hl : (s.lists[n].edits.foldl (fun s e => s.releasePending e.handle.index) s).lists = s.lists := by
      rw [foldl_releasePending_frame]
    unfold State.emptyList
    rw [setList_lists, hl]
  refine h.relist hlists hviews (fun i => by rw [hent i]) ?_ ?_ (fun e he => absurd he List.not_mem_nil) ?_
  · intro i
    rw [hent i]
    have h1 := naming_le_editsNaming s n i
    have h2 := h.pending i
    have h3 : naming [] i = 0 := rfl
    simp only [h3]
    omega
  · intro i hp
    rw [hent i] at hp
    exact entryOk_staged_or_live_of_pending (h.entryOk i) (fun e => hp (by simp only [e, Nat.zero_sub]))
  · have hlaw := h.layouts n
    cases hc : s.views[n].config with
    | none =>
      obtain ⟨hanchors, hreset⟩ := (layoutLawOf_none hc).1 hlaw
      refine (layoutLawOf_none (by rw [hviews]; exact hc)).2 ⟨by rw [hviews]; exact hanchors, ?_⟩
      rw [hlist, hreset]
      rfl
    | some c =>
      obtain ⟨hgrid, hvalid, -, -⟩ := (layoutLawOf_some hc).1 hlaw
      have hproj : (s.emptyList n).projected n = s.views[n].anchors := by
        unfold State.projected
        rw [hlist, hviews]
        rfl
      have hvalid' := layoutFault_profile hprofile hvalid
      refine (layoutLawOf_some (by rw [hviews]; exact hc)).2 ⟨hgrid, by rw [hviews]; exact hvalid', ?_, ?_⟩
      · rw [hproj]
        exact fun _ => hvalid'
      · rw [hproj]
        exact h.distinct n

/-- An edit joined to an UNARMED list, on an entry that may take it (R70 to R72). -/
theorem HeldLaw.joined {s : State} {held : List Selection} (h : HeldLaw s held) {n : Stream} {c : ViewConfig} {e : Edit}
    (hc : s.views[n].config = some c) (ht : s.lists[n].target = none) (hcur : HandleCurrent s e.handle)
    (hst : s.entries[e.handle.index].state = .staged ∨ s.entries[e.handle.index].state = .live)
    (ha : ∀ hd k p, e = .attach hd k p → ¬ Holds (s.projected n) hd.index) : HeldLaw (joined s n e) held := by
  have hentry : ∀ i : EntryIndex, (ProfileTable.joined s n e).entries[i] =
      { s.entries[i] with pendingRefs := s.entries[i].pendingRefs + if e.handle.index = i then 1 else 0 } := by
    intro i
    by_cases hi : e.handle.index = i
    · subst hi
      rw [if_pos rfl]
      exact getElem_set_same _ _ _
    · rw [if_neg hi]
      exact getElem_set_other _ _ (Ne.symm hi)
  have hprofile : ∀ i : EntryIndex, (ProfileTable.joined s n e).entries[i].profile = s.entries[i].profile :=
    fun i => by rw [hentry i]
  have hlist : (ProfileTable.joined s n e).lists[n] = { s.lists[n] with edits := s.lists[n].edits ++ [e] } :=
    getElem_set_same _ _ _
  refine h.relist (n := n) (l := { s.lists[n] with edits := s.lists[n].edits ++ [e] }) rfl rfl
    (fun i => by rw [hentry i]) ?_ ?_ ?_ ?_
  · intro i
    rw [hentry i, naming_append, naming_cons]
    have h3 : naming [] i = 0 := rfl
    simp only [h3]
    omega
  · intro i hp
    by_cases hi : e.handle.index = i
    · subst hi
      exact hst
    · rw [hentry i, if_neg hi] at hp
      exact entryOk_staged_or_live_of_pending (h.entryOk i) hp
  · intro f hf
    rcases List.mem_append.1 hf with hf | hf
    · exact h.edits n f hf
    · rw [List.mem_singleton.1 hf]
      exact hcur
  · obtain ⟨hgrid, hvalid, -, hdist⟩ := (layoutLawOf_some hc).1 (h.layouts n)
    have hproj : (ProfileTable.joined s n e).projected n = applyEdit (s.projected n) e := by
      unfold State.projected
      rw [hlist]
      exact List.foldl_append
    refine (layoutLawOf_some (s := ProfileTable.joined s n e) hc).2 ⟨hgrid, layoutFault_profile hprofile hvalid, ?_, ?_⟩
    · rw [hlist, ht]
      exact fun hsome => absurd hsome Bool.false_ne_true
    · rw [hproj]
      exact distinctEntries_applyEdit hdist ha

/-! ### An apply (R80 to R82) -/

/-- An apply changes an entry in its membership, its pending references and its state alone. -/
theorem apply_entry_fields (s : State) (n : Stream) (i : EntryIndex) :
    (s.apply n).entries[i] = { s.entries[i] with
      membership := settledMembership n i s.entries[i].membership s.lists[n].edits
      state := (s.apply n).entries[i].state
      pendingRefs := s.entries[i].pendingRefs - naming s.lists[n].edits i } := by
  by_cases hnamed : ∃ e ∈ s.lists[n].edits, e.handle.index = i
  · rw [apply_named hnamed]
    rfl
  · have hnone : ∀ e ∈ s.lists[n].edits, e.handle.index ≠ i := fun e he hi => hnamed ⟨e, he, hi⟩
    rw [apply_unnamed hnone, settledMembership_unnamed _ hnone, naming_eq_zero.2 hnone]
    rfl

theorem stateOfMembership_live {m : StreamMask} : stateOfMembership m = .live ↔ m ≠ 0 := by
  unfold stateOfMembership
  split <;> simp_all

/-- An entry settled by an apply is in its row of the table. -/
theorem entryOk_settled {e : Entry} (n : Stream) (i : EntryIndex) (es : List Edit) (h : EntryOk e)
    (hst : e.state = .staged ∨ e.state = .live) : EntryOk (settled n i e es) := by
  obtain ⟨hall, hcheck, -⟩ := (entryOk_of_staged_or_live hst).1 h
  have hst' : (settled n i e es).state = .staged ∨ (settled n i e es).state = .live := by
    unfold settled stateOfMembership
    dsimp only
    split
    · exact Or.inl rfl
    · exact Or.inr rfl
  exact (entryOk_of_staged_or_live hst').2 ⟨hall, hcheck, stateOfMembership_live⟩

/-- An apply of a list whose projected layout is valid keeps the laws. -/
theorem HeldLaw.apply {s : State} {held : List Selection} (h : HeldLaw s held) {n : Stream} {c : ViewConfig}
    (hc : s.views[n].config = some c) (hvalid : s.layoutFault c (s.projected n) = none) : HeldLaw (s.apply n) held := by
  have hent := apply_entry_fields s n
  have hviews : (s.apply n).views = s.views.set n (appliedView s n) := by rw [apply_eq]
  have hlists : (s.apply n).lists = s.lists.set n { edits := [], target := none } := by rw [apply_eq]
  have hview : (s.apply n).views[n] = appliedView s n := apply_view_same s n
  have hlist : (s.apply n).lists[n] = { edits := [], target := none } := by rw [hlists, getElem_set_same]
  have hrev : ∀ i : EntryIndex, (s.apply n).entries[i].revision = s.entries[i].revision := fun i => by rw [hent i]
  have hprofile : ∀ i : EntryIndex, (s.apply n).entries[i].profile = s.entries[i].profile := fun i => by rw [hent i]
  refine ⟨?_, ?_, ?_, ?_, ?_, ?_, ?_⟩
  · intro i
    by_cases hnamed : ∃ e ∈ s.lists[n].edits, e.handle.index = i
    · rw [apply_named hnamed]
      obtain ⟨e, he, rfl⟩ := hnamed
      exact entryOk_settled _ _ _ (h.entryOk _) (entryOk_staged_or_live_of_pending (h.entryOk _) (h.pending_pos he))
    · rw [apply_unnamed (fun e he hi => hnamed ⟨e, he, hi⟩)]
      exact h.entryOk i
  · intro i
    have h1 := editsNaming_set hlists i
    have h2 := h.pending i
    have h3 : naming ([] : List Edit) i = 0 := rfl
    rw [hent i]
    simp only [h3] at h1 ⊢
    omega
  · intro i
    rw [hent i]
    exact h.lookups i
  · intro m
    by_cases hm : m = n
    · subst hm
      rw [hview]
      refine ⟨fun i => ?_, fun a ha => ?_⟩
      · rw [hent i, Bool.eq_iff_iff, any_eq_decide_holds]
        exact inMask_settledMembership_iff_holds _ (membership_iff_holds h.members m i)
      · show (s.apply m).entries[a.handle.index].revision = _
        rw [hrev]
        rcases handle_of_mem_applyEdits _ ha with ⟨b, hb, hab⟩ | ⟨e, he, hea⟩
        · rw [← hab]
          exact (h.members m).2 b hb
        · rw [← hea]
          exact h.edits m e he
    · have hsame : (s.apply n).views[m] = s.views[m] := by rw [hviews, getElem_set_other _ _ hm]
      rw [hsame]
      refine ⟨fun i => ?_, fun a ha => (hrev _).trans ((h.members m).2 a ha)⟩
      rw [hent i, ← (h.members m).1 i]
      exact inMask_settledMembership_other i _ _ hm
  · intro m
    by_cases hm : m = n
    · subst hm
      obtain ⟨hgrid, -, -, -⟩ := (layoutLawOf_some hc).1 (h.layouts m)
      have hproj : (s.apply m).projected m = s.projected m := by
        unfold State.projected
        rw [hlist, hview]
        rfl
      have hvalid' := layoutFault_profile hprofile hvalid
      refine (layoutLawOf_some (by rw [hview]; exact hc)).2 ⟨hgrid, by rw [hview]; exact hvalid', ?_, ?_⟩
      · rw [hproj]
        exact fun _ => hvalid'
      · rw [hproj]
        exact (layoutFault_eq_none.1 hvalid).2.2.1
    · exact layoutLawOf_congr h (by rw [hviews, getElem_set_other _ _ hm]) (by rw [hlists, getElem_set_other _ _ hm])
        (fun i _ => hprofile i)
  · intro m e he
    by_cases hm : m = n
    · subst hm
      rw [hlist] at he
      cases he
    · rw [hlists, getElem_set_other _ _ hm] at he
      exact (hrev _).trans (h.edits m e he)
  · intro sel hsel
    exact selectionOk_congr hrev (h.selections sel hsel)

/-! ### A view configured, and the start-up attach (R57, R162) -/

/-- An empty view with an empty, UNARMED list may take any configuration in range. -/
theorem HeldLaw.configure {s t : State} {held : List Selection} (h : HeldLaw s held) {n : Stream} {c : ViewConfig}
    (he : t.entries = s.entries) (hl : t.lists = s.lists)
    (hv : t.views = s.views.set n { s.views[n] with config := some c, anchors := [] })
    (hgrid : GeometryOk c.geometry) (hanchors : s.views[n].anchors = []) (hlist : s.lists[n] = EditList.reset) :
    HeldLaw t held := by
  have hrev : ∀ i : EntryIndex, t.entries[i].revision = s.entries[i].revision := fun i => by rw [he]
  have hview : ∀ m : Stream, t.views[m].anchors = s.views[m].anchors := by
    intro m
    rw [hv]
    by_cases hm : m = n
    · subst hm
      rw [getElem_set_same, hanchors]
    · rw [getElem_set_other _ _ hm]
  refine ⟨fun i => by rw [he]; exact h.entryOk i, fun i => by rw [he, h.pending, editsNaming_congr hl],
    fun i => by rw [he]; exact h.lookups i, ?_, ?_, ?_, fun sel hs => selectionOk_congr hrev (h.selections sel hs)⟩
  · intro m
    rw [hview m, he]
    exact ⟨(h.members m).1, fun a ha => (hrev _).trans ((h.members m).2 a ha)⟩
  · intro m
    by_cases hm : m = n
    · subst hm
      have hcfg : t.views[m].config = some c := by rw [hv, getElem_set_same]
      have hnil : t.views[m].anchors = [] := (hview m).trans hanchors
      have hproj : t.projected m = [] := by
        unfold State.projected
        rw [hnil, hl, hlist]
        rfl
      refine (layoutLawOf_some hcfg).2 ⟨hgrid, by rw [hnil]; exact layoutFault_nil t c, ?_, by rw [hproj]; rfl⟩
      rw [hproj]
      exact fun _ => layoutFault_nil t c
    · exact layoutLawOf_congr h (by rw [hv, getElem_set_other _ _ hm]) (by rw [hl]) (fun i _ => by rw [he])
  · intro m e hmem
    rw [hl] at hmem
    exact (hrev _).trans (h.edits m e hmem)

/-- The start-up attach: a LOADING entry becomes LIVE as the sole anchor of an UNCONFIGURED view (R162). -/
theorem HeldLaw.attachBaseline {s : State} {held : List Selection} (h : HeldLaw s held) {n : Stream} {i : EntryIndex}
    {f : SlotFields} {g : Geometry} {fmt : Format} (hst : s.entries[i].state = .loading)
    (hprofile : s.entries[i].profile = some (slotProfile n f g fmt)) (hgrid : GeometryOk g)
    (hcfg : s.views[n].config = none) : HeldLaw (s.attachBaseline n i f g fmt) held := by
  obtain ⟨hanchors, hreset⟩ := (layoutLawOf_none hcfg).1 (h.layouts n)
  obtain ⟨hall, -, -, hm0, hp0, hl0⟩ := entryOk_loading (h.entryOk i) hst
  have hsame : (s.attachBaseline n i f g fmt).entries[i] =
      { s.entries[i] with state := .live, checkValue := some f.crc, membership := streamBit n } := setEntry_get_same _ _ _
  have hother : ∀ j : EntryIndex, j ≠ i → (s.attachBaseline n i f g fmt).entries[j] = s.entries[j] :=
    fun j hj => setEntry_get_other _ _ _ _ hj
  have hview : (s.attachBaseline n i f g fmt).views[n] =
      { config := some { geometry := g, format := fmt }
        anchors := [{ handle := { index := i, revision := s.entries[i].revision }, key := f.key, plateau := f.plateau }]
        generation := s.views[n].generation + 1 } := by
    unfold State.attachBaseline
    rw [setView_get_same, setEntry_get_same]
    rfl
  have hviews : ∀ m : Stream, m ≠ n → (s.attachBaseline n i f g fmt).views[m] = s.views[m] := by
    intro m hm
    unfold State.attachBaseline
    rw [setView_get_other _ _ _ _ hm]
    rfl
  have hlists : (s.attachBaseline n i f g fmt).lists = s.lists := rfl
  have hfields : ∀ j : EntryIndex, (s.attachBaseline n i f g fmt).entries[j] = { s.entries[j] with
      state := (s.attachBaseline n i f g fmt).entries[j].state
      checkValue := (s.attachBaseline n i f g fmt).entries[j].checkValue
      membership := (s.attachBaseline n i f g fmt).entries[j].membership } := by
    intro j
    by_cases hj : j = i
    · subst hj
      rw [hsame]
    · rw [hother j hj]
  have hrev : ∀ j : EntryIndex, (s.attachBaseline n i f g fmt).entries[j].revision = s.entries[j].revision :=
    fun j => by rw [hfields j]
  refine ⟨?_, ?_, ?_, ?_, ?_, ?_, fun sel hs => selectionOk_congr hrev (h.selections sel hs)⟩
  · intro j
    by_cases hj : j = i
    · subst hj
      rw [hsame]
      refine ⟨hall, rfl, ?_⟩
      intro h0
      have hbit := mask_eq_zero_iff.1 h0 n
      simp [inMask_streamBit] at hbit
    · rw [hother j hj]
      exact h.entryOk j
  · intro j
    rw [hfields j, editsNaming_congr hlists]
    exact h.pending j
  · intro j
    rw [hfields j]
    exact h.lookups j
  · intro m
    by_cases hm : m = n
    · subst hm
      rw [hview]
      refine ⟨fun j => ?_, ?_⟩
      · by_cases hj : j = i
        · subst hj
          rw [hsame]
          simp [inMask_streamBit]
        · rw [hother j hj, (h.members m).1 j, hanchors]
          simp [Ne.symm hj]
      · intro a ha
        rw [List.mem_singleton.1 ha]
        exact hrev i
    · rw [hviews m hm]
      refine ⟨fun j => ?_, fun a ha => (hrev _).trans ((h.members m).2 a ha)⟩
      rw [← (h.members m).1 j]
      by_cases hj : j = i
      · subst hj
        rw [hsame, hm0]
        show inMask (streamBit n) m = inMask 0 m
        rw [inMask_streamBit, inMask_zero]
        exact decide_eq_false (Ne.symm hm)
      · rw [hother j hj]
  · intro m
    by_cases hm : m = n
    · subst hm
      have hvalid : (s.attachBaseline m i f g fmt).layoutFault { geometry := g, format := fmt }
          (s.attachBaseline m i f g fmt).views[m].anchors = none := by
        rw [hview, layoutFault_eq_none]
        refine ⟨by simp, rfl, rfl, ?_⟩
        intro a ha
        rw [List.mem_singleton.1 ha, hsame]
        exact (fits_iff hprofile).2 ⟨rfl, rfl⟩
      have hproj : (s.attachBaseline m i f g fmt).projected m = (s.attachBaseline m i f g fmt).views[m].anchors := by
        unfold State.projected
        rw [hlists, hreset]
        rfl
      refine (layoutLawOf_some (by rw [hview])).2 ⟨hgrid, hvalid, ?_, ?_⟩
      · rw [hproj]
        exact fun _ => hvalid
      · rw [hproj]
        exact (layoutFault_eq_none.1 hvalid).2.2.1
    · exact layoutLawOf_congr h (hviews m hm) rfl (fun j _ => by rw [hfields j])
  · intro m e he
    exact (hrev _).trans (h.edits m e he)

end Sys2Proof.ProfileTable

/-! PROOFS. What an event of the lookup ports and the Surface Engine changes: entries in their lookup references, or freed
when they drain; the free list; the ports; the datapath and the grant pointer; and nothing else. -/

namespace Sys2Proof.ProfileTable

open Sys2Proof Sys2Proof.Machine Sys2Proof.Safety

/-! ### Serving -/

/-- Every anchor of every view names a LIVE entry (R16). -/
def AnchorsLive (s : State) : Prop := ∀ n : Stream, ∀ a ∈ s.views[n].anchors, s.entries[a.handle.index].state = .live

/-- What serving leaves of an entry: its lookup references change, upward for a LIVE entry alone, or it has drained. -/
def ServeKept (e e' : Entry) : Prop :=
  (∃ r, e' = { e with lookupRefs := r } ∧ (e.state ≠ .live → r ≤ e.lookupRefs)) ∨
    (e.state = .draining ∧ e' = Entry.freed e.revision)

theorem ServeKept.refl (e : Entry) : ServeKept e e := Or.inl ⟨e.lookupRefs, rfl, fun _ => Nat.le_refl _⟩

theorem ServeKept.trans {e e' e'' : Entry} (h : ServeKept e e') (h' : ServeKept e' e'') : ServeKept e e'' := by
  rcases h with ⟨r, rfl, hr⟩ | ⟨hst, rfl⟩
  · rcases h' with ⟨r', rfl, hr'⟩ | ⟨hst', rfl⟩
    · exact Or.inl ⟨r', rfl, fun hl => (hr' hl).trans (hr hl)⟩
    · exact Or.inr ⟨hst', rfl⟩
  · rcases h' with ⟨r', rfl, hr'⟩ | ⟨hst', -⟩
    · have h0 : r' = 0 := Nat.le_zero.1 (hr' EntryState.noConfusion)
      subst h0
      exact Or.inr ⟨hst, rfl⟩
    · cases hst'

/-- A LIVE entry stays LIVE. -/
theorem ServeKept.live {e e' : Entry} (h : ServeKept e e') (hl : e.state = .live) : e'.state = .live := by
  rcases h with ⟨r, rfl, -⟩ | ⟨hst, -⟩
  · exact hl
  · rw [hl] at hst
    cases hst

/-- t comes from s by serving lookups. -/
structure Serves (s t : State) : Prop where
  frame : t = { s with
    entries := t.entries, freePages := t.freePages, ports := t.ports, datapath := t.datapath
    lastGranted := t.lastGranted }
  kept : AnchorsLive s → ∀ i : EntryIndex, ServeKept s.entries[i] t.entries[i]

namespace Serves

variable {s t u : State}

theorem refl (s : State) : Serves s s := ⟨rfl, fun _ _ => ServeKept.refl _⟩

theorem views (h : Serves s t) : t.views = s.views := by rw [h.frame]

theorem lists (h : Serves s t) : t.lists = s.lists := by rw [h.frame]

theorem slots (h : Serves s t) : t.slots = s.slots := by rw [h.frame]

theorem engine (h : Serves s t) : t.engine = s.engine := by rw [h.frame]

theorem points (h : Serves s t) : t.points = s.points := by rw [h.frame]

theorem alerts (h : Serves s t) : t.alerts = s.alerts := by rw [h.frame]

theorem anchorsLive (h : Serves s t) (hl : AnchorsLive s) : AnchorsLive t := by
  intro n a ha
  rw [h.views] at ha
  exact (h.kept hl _).live (hl n a ha)

theorem trans (h : Serves s t) (h' : Serves t u) : Serves s u := by
  refine ⟨?_, fun hl i => (h.kept hl i).trans (h'.kept (h.anchorsLive hl) i)⟩
  rw [h'.frame, h.frame]

/-- A fold of servings is a serving. -/
theorem foldl {α : Type} {f : State → α → State} (hf : ∀ s a, Serves s (f s a)) (l : List α) (s : State) :
    Serves s (l.foldl f s) := by
  induction l generalizing s with
  | nil => exact refl s
  | cons a l ih => exact (hf s a).trans (ih _)

theorem modPort (s : State) (p : Stream) (f : Port → Port) : Serves s (s.modPort p f) :=
  ⟨rfl, fun _ _ => ServeKept.refl _⟩

theorem setPort (s : State) (p : Stream) (x : Port) : Serves s (s.setPort p x) := ⟨rfl, fun _ _ => ServeKept.refl _⟩

theorem send (s : State) (p : Stream) (ms : List OutMessage) : Serves s (s.send p ms) := modPort s p _

theorem releaseLookupRef (s : State) (i : EntryIndex) : Serves s (s.releaseLookupRef i) := by
  refine ⟨by rw [releaseLookupRef_frame], fun _ j => ?_⟩
  by_cases hj : j = i
  · subst hj
    by_cases hd : Drains s j
    · rw [releaseLookupRef_drains hd, freeEntry_same]
      exact Or.inr ⟨hd.1, rfl⟩
    · rw [releaseLookupRef_keeps hd, setEntry_get_same]
      exact Or.inl ⟨_, rfl, fun _ => Nat.sub_le _ _⟩
  · rw [releaseLookupRef_other s i j hj]
    exact ServeKept.refl _

theorem releaseRefs (s : State) (sel : Selection) : Serves s (s.releaseRefs sel) :=
  foldl releaseLookupRef sel.sources s

/-- References on LIVE entries are taken. -/
theorem takeRefs {s : State} {sel : Selection} (h : AnchorsLive s → ∀ i ∈ sel.sources, s.entries[i].state = .live) :
    Serves s (s.takeRefs sel) := by
  refine ⟨by rw [takeRefs_frame], fun hl i => ?_⟩
  rw [takeRefs_entries]
  refine Or.inl ⟨_, rfl, fun hne => ?_⟩
  have hi : i ∉ sel.sources := fun hi => hne (h hl i hi)
  have hcount : sel.sources.countP (fun j => j = i) = 0 := by
    rw [List.countP_eq_zero]
    rintro j hj hji
    exact hi (of_decide_eq_true hji ▸ hj)
  rw [hcount, Nat.add_zero]

end Serves

/-! ### The selection of a key (R103 to R108) -/

/-- What a choice takes from an anchor list. -/
def ChoiceOk (as : List Anchor) : Choice → Prop
  | .empty => True
  | .single a => a ∈ as
  | .pair a b _ => a ∈ as ∧ b ∈ as ∧ (distinctEntries as = true → a.handle.index ≠ b.handle.index)

theorem ChoiceOk.cons {a : Anchor} {as : List Anchor} {c : Choice} (h : ChoiceOk as c) : ChoiceOk (a :: as) c := by
  cases c with
  | empty => trivial
  | single b => exact List.mem_cons_of_mem _ h
  | pair b c w =>
    obtain ⟨hb, hc, hne⟩ := h
    refine ⟨List.mem_cons_of_mem _ hb, List.mem_cons_of_mem _ hc, fun hd => hne ?_⟩
    simp only [distinctEntries, Bool.and_eq_true] at hd
    exact hd.2

theorem choiceOk_choose (as : List Anchor) (k : Nat) : ChoiceOk as (choose as k) := by
  induction as with
  | nil => trivial
  | cons a as ih =>
    cases as with
    | nil => exact List.mem_cons_self
    | cons b rest =>
      unfold choose
      split
      · exact List.mem_cons_self
      · split
        · unfold gapChoice
          split
          · exact List.mem_cons_self
          · refine ⟨List.mem_cons_self, List.mem_cons_of_mem _ List.mem_cons_self, ?_⟩
            intro hd
            simp only [distinctEntries, List.all_cons, Bool.and_eq_true, decide_eq_true_eq] at hd
            exact fun e => hd.1.1 e.symm
        · exact ih.cons

/-- The handles of a selection are those of anchors of the list that it was chosen from. -/
theorem anchors_selectionOf {s : State} {as : List Anchor} {c : Choice} (h : ChoiceOk as c) :
    (∀ hd ∈ (s.selectionOf c).anchorA, ∃ a ∈ as, a.handle = hd) ∧
      ∀ hd ∈ (s.selectionOf c).anchorB, ∃ a ∈ as, a.handle = hd := by
  cases c with
  | empty => exact ⟨fun _ hd => (by cases hd), fun _ hd => (by cases hd)⟩
  | single a =>
    unfold State.selectionOf
    dsimp only
    split
    · exact ⟨fun _ hd => (by cases hd), fun _ hd => (by cases hd)⟩
    · exact ⟨fun _ hd => ⟨a, h, Option.some.inj hd⟩, fun _ hd => (by cases hd)⟩
  | pair a b w =>
    obtain ⟨ha, hb, -⟩ := h
    unfold State.selectionOf
    dsimp only
    split
    · exact ⟨fun _ hd => ⟨a, ha, Option.some.inj hd⟩, fun _ hd => ⟨b, hb, Option.some.inj hd⟩⟩
    · exact ⟨fun _ hd => ⟨b, hb, Option.some.inj hd⟩, fun _ hd => (by cases hd)⟩
    · exact ⟨fun _ hd => ⟨a, ha, Option.some.inj hd⟩, fun _ hd => (by cases hd)⟩
    · exact ⟨fun _ hd => (by cases hd), fun _ hd => (by cases hd)⟩

/-- A selection from distinct entries names no entry twice. -/
theorem sources_selectionOf_nodup {s : State} {as : List Anchor} {c : Choice} (h : ChoiceOk as c)
    (hd : distinctEntries as = true) : (s.selectionOf c).sources.Nodup := by
  cases c with
  | empty => exact List.nodup_nil
  | single a =>
    unfold State.selectionOf
    dsimp only
    split
    · exact List.nodup_nil
    · exact List.nodup_singleton _
  | pair a b w =>
    have hne := h.2.2 hd
    unfold State.selectionOf
    dsimp only
    split
    · exact List.nodup_cons.2 ⟨fun hm => hne (List.mem_singleton.1 hm), List.nodup_singleton _⟩
    · exact List.nodup_singleton _
    · exact List.nodup_singleton _
    · exact List.nodup_nil

/-- The anchors of a selection stand in its view. -/
theorem anchors_select (s : State) (p : Stream) (key : Word) :
    (∀ hd ∈ (s.select p key).anchorA, ∃ a ∈ s.views[p].anchors, a.handle = hd) ∧
      ∀ hd ∈ (s.select p key).anchorB, ∃ a ∈ s.views[p].anchors, a.handle = hd :=
  anchors_selectionOf (choiceOk_choose _ _)

/-- The entries of a selection are named by anchors of its view. -/
theorem sources_select {s : State} {p : Stream} {key : Word} {i : EntryIndex} (hi : i ∈ (s.select p key).sources) :
    Holds s.views[p].anchors i := by
  obtain ⟨hA, hB⟩ := anchors_select s p key
  rcases mem_sources.1 hi with ⟨hd, hh, rfl⟩ | ⟨hd, hh, rfl⟩
  · obtain ⟨a, ha, rfl⟩ := hA hd hh
    exact ⟨a, ha, rfl⟩
  · obtain ⟨a, ha, rfl⟩ := hB hd hh
    exact ⟨a, ha, rfl⟩

/-- The entries of a selection are LIVE. -/
theorem live_select {s : State} (hl : AnchorsLive s) (p : Stream) (key : Word) :
    ∀ i ∈ (s.select p key).sources, s.entries[i].state = .live := by
  intro i hi
  obtain ⟨a, ha, rfl⟩ := sources_select hi
  exact hl p a ha

/-! ### A port disabled (R134) -/

/-- Port p with the lookup that waits behind its head ended, where there is one. -/
def waitingDisabled (s : State) (p : Stream) : List Lookup → State
  | [] => s
  | w :: _ => s.endWaiting p [.ended w.tag .cancelled]

theorem disablePort_nil {s : State} {p : Stream} (hq : s.ports[p].queue = []) : s.disablePort p = s := by
  unfold State.disablePort
  rw [hq]

theorem disablePort_cons {s : State} {p : Stream} {h : Lookup} {rest : List Lookup}
    (hq : s.ports[p].queue = h :: rest) :
    s.disablePort p =
      if h.granted = none then (waitingDisabled s p rest).endHead p [.ended h.tag .cancelled]
      else if h.resetting then waitingDisabled s p rest
      else (waitingDisabled s p rest).modPort p Port.cancelHead := by
  unfold State.disablePort
  rw [hq]
  cases hg : h.granted <;> cases rest <;> simp [waitingDisabled, hg]

/-! ### The operations of the lookup ports serve -/

namespace Serves

theorem endHead (s : State) (p : Stream) (ms : List OutMessage) : Serves s (s.endHead p ms) := by
  unfold State.endHead
  split
  · exact refl s
  · next h rest _ =>
    have hend := (releaseRefs s h.selection).trans (modPort _ p
      (fun x => { x with queue := rest, timer := .stopped, out := x.out ++ ms }))
    dsimp only
    split
    · exact hend
    · exact (hend.trans (send _ p _)).trans (modPort _ p _)

theorem endWaiting (s : State) (p : Stream) (ms : List OutMessage) : Serves s (s.endWaiting p ms) := by
  unfold State.endWaiting
  split
  · next h w _ _ => exact (releaseRefs s w.selection).trans (modPort _ p _)
  · exact refl s

theorem acceptLookup (s : State) (p : Stream) (c : ViewConfig) (tag : Byte) (key : Word) (first count : Nat) :
    Serves s (s.acceptLookup p c tag key first count) := by
  have htake : Serves s (s.takeRefs (s.select p key)) := takeRefs (fun hl => live_select hl p key)
  unfold State.acceptLookup
  dsimp only
  split
  · exact ((htake.trans (modPort _ p _)).trans (send _ p _)).trans (modPort _ p _)
  · exact htake.trans (modPort _ p _)

theorem takeLookup (s : State) (p : Stream) (tag : Byte) (key : Word) (first count : Nat) :
    Serves s (s.takeLookup p tag key first count) := by
  unfold State.takeLookup
  dsimp only
  split
  · exact send s p _
  · split
    · exact send s p _
    · split
      · exact send s p _
      · split
        · exact send s p _
        · split
          · exact send s p _
          · split
            · exact acceptLookup s p _ tag key first count
            · exact send s p _

theorem takeCredit (s : State) (p : Stream) (n : Nat) : Serves s (s.takeCredit p n) := setPort s p _

theorem takeCancel (s : State) (p : Stream) (tag : Byte) : Serves s (s.takeCancel p tag) := by
  unfold State.takeCancel
  split
  · exact send s p _
  · split
    · split
      · exact endHead s p _
      · exact modPort s p _
    · split
      · exact send s p _
      · split
        · exact endWaiting s p _
        · exact send s p _

theorem takeReset (s : State) (p : Stream) : Serves s (s.takeReset p) := by
  unfold State.takeReset
  split
  · exact modPort s p _
  · split
    · exact (endWaiting s p _).trans (modPort _ p _)
    · exact (foldl (f := fun s (l : Lookup) => s.releaseRefs l.selection) (fun s l => releaseRefs s l.selection) _ s).trans
        (modPort _ p _)

theorem takeMessage (s : State) (p : Stream) (m : LinkMessage) : Serves s (s.takeMessage p m) := by
  cases m with
  | lookup tag key first count => exact takeLookup s p tag key _ _
  | credit n =>
    unfold State.takeMessage
    dsimp only
    split
    · exact takeCredit s p _
    · exact refl s
  | cancel tag =>
    unfold State.takeMessage
    dsimp only
    split
    · exact takeCancel s p _
    · exact refl s
  | reset =>
    unfold State.takeMessage
    dsimp only
    split
    · exact takeReset s p
    · exact refl s

theorem arrive (s : State) (p : Stream) (m : LinkMessage) : Serves s (s.arrive p m) := by
  unfold State.arrive
  split
  · split
    · exact modPort s p _
    · exact send s p _
  · exact takeMessage s p m

theorem discard (s : State) (p : Stream) : Serves s (s.discard p) := by
  unfold State.discard
  dsimp only
  split
  · exact (modPort s p _).trans (send _ p _)
  · exact modPort s p _

theorem judgeMessage (s : State) (p : Stream) (bytes : List Byte) : Serves s (s.judgeMessage p bytes) := by
  unfold State.judgeMessage
  split
  · split
    · exact arrive s p _
    · exact discard s p
  · exact discard s p

theorem receiveByte (s : State) (p : Stream) (b : Byte) : Serves s (s.receiveByte p b) := by
  unfold State.receiveByte
  split
  · split
    · exact modPort s p _
    · exact refl s
  · split
    · exact refl s
    · split
      · exact discard s p
      · exact modPort s p _
  · dsimp only
    split
    · exact discard s p
    · split
      · exact modPort s p _
      · exact (modPort s p _).trans (judgeMessage _ p _)

theorem receive (s : State) (p : Stream) (bytes : List Byte) : Serves s (s.receive p bytes) :=
  foldl (fun s b => receiveByte s p b) bytes s

theorem expire (s : State) (p : Stream) : Serves s (s.expire p) := by
  unfold State.expire
  split
  · exact refl s
  · exact endHead s p _

theorem tick (s : State) : Serves s s.tick := by
  unfold State.tick
  split
  · exact expire s _
  · exact foldl (fun s p => modPort s p _) allStreams s

theorem waitingDisabled (s : State) (p : Stream) (rest : List Lookup) : Serves s (waitingDisabled s p rest) := by
  cases rest with
  | nil => exact refl s
  | cons w ws => exact endWaiting s p _

theorem disablePort (s : State) (p : Stream) : Serves s (s.disablePort p) := by
  cases hq : s.ports[p].queue with
  | nil =>
    rw [disablePort_nil hq]
    exact refl s
  | cons h rest =>
    rw [disablePort_cons hq]
    split
    · exact (waitingDisabled s p rest).trans (endHead _ p _)
    · split
      · exact waitingDisabled s p rest
      · exact (waitingDisabled s p rest).trans (modPort _ p _)

theorem finishReset (s : State) (p : Stream) : Serves s (s.finishReset p) := by
  unfold State.finishReset
  split
  · exact refl s
  · exact ((releaseRefs s _).trans (modPort _ p _)).trans (foldl (fun s m => takeMessage s p m) _ _)

/-- The datapath and the grant pointer are the Surface Engine's own. -/
theorem withDatapath (s : State) (d : Option Producing) (last : Stream) :
    Serves s { s with datapath := d, lastGranted := last } := ⟨rfl, fun _ _ => ServeKept.refl _⟩

theorem handOver (s : State) (p : Stream) (h : Lookup) (r : Nat) (ks : List Knot) : Serves s (s.handOver p h r ks) := by
  have hidle := withDatapath s none s.lastGranted
  unfold State.handOver
  dsimp only
  split
  · exact hidle.trans (finishReset _ p)
  · have hrow := hidle.trans (modPort _ p (fun x => x.makeRow r ks))
    split
    · exact hrow.trans (endHead _ p _)
    · split
      · exact hrow.trans (endHead _ p _)
      · exact hrow.trans (modPort _ p _)

end Serves

end Sys2Proof.ProfileTable

/-! PROOFS. Serving keeps the laws of the records: lookup references counted by the selections that lookups hold, taken
when a lookup is accepted and released when it ends. -/

namespace Sys2Proof.ProfileTable

open Sys2Proof Sys2Proof.Machine Sys2Proof.Safety

/-! ### References taken and released, relative to the selections held (R17, R18) -/

theorem holding_cons (sel : Selection) (held : List Selection) (i : EntryIndex) :
    holding (sel :: held) i = holding held i + if i ∈ sel.sources then 1 else 0 := by
  unfold holding
  rw [List.countP_cons]
  simp only [List.contains_iff_mem]

theorem entryState_cases (x : EntryState) :
    (x = .free ∨ x = .loading) ∨ (x = .staged ∨ x = .live) ∨ x = .draining := by
  cases x <;> simp

/-- An entry changed in its lookup references stays in its row of the table: FREE and LOADING entries hold none, and a
DRAINING one holds some. -/
theorem entryOk_lookupRefs {e : Entry} {r : Nat} (h : EntryOk e)
    (hidle : e.state = .free ∨ e.state = .loading → r = e.lookupRefs) (hdrain : e.state = .draining → 1 ≤ r) :
    EntryOk { e with lookupRefs := r } := by
  rcases entryState_cases e.state with hst | hst | hst
  · rw [hidle hst]
    exact h
  · exact (entryOk_of_staged_or_live (e := { e with lookupRefs := r }) hst).2 ((entryOk_of_staged_or_live hst).1 h)
  · obtain ⟨hall, hcheck, hm, hp, -⟩ := entryOk_draining h hst
    unfold EntryOk
    simp only [hst]
    exact ⟨hall, hcheck, hm, hp, hdrain hst⟩

theorem entryOk_idle_lookupRefs {e : Entry} (h : EntryOk e) (hst : e.state = .free ∨ e.state = .loading) :
    e.lookupRefs = 0 := by
  rcases hst with hst | hst
  · exact (entryOk_free_counts h hst).2.2
  · exact (entryOk_loading h hst).2.2.2.2.2

/-- References released: the selection is held no more. -/
theorem HeldLaw.releaseRefs {s : State} {sel : Selection} {held : List Selection} (h : HeldLaw s (sel :: held)) :
    HeldLaw (s.releaseRefs sel) held := by
  have hnodup : sel.sources.Nodup := (h.selections sel List.mem_cons_self).1
  have hrel : ∀ i, Released s (s.releaseRefs sel) sel.sources i :=
    fun i => foldl_releaseLookupRef_entries sel.sources s hnodup i
  have hcount : ∀ i : EntryIndex, s.entries[i].lookupRefs = holding held i + if i ∈ sel.sources then 1 else 0 :=
    fun i => (h.lookups i).trans (holding_cons sel held i)
  have hviews : (s.releaseRefs sel).views = s.views := by rw [releaseRefs_frame]
  have hlists : (s.releaseRefs sel).lists = s.lists := by rw [releaseRefs_frame]
  have hentry : ∀ i : EntryIndex, Steady s.entries[i] (s.releaseRefs sel).entries[i] ∧
      EntryOk (s.releaseRefs sel).entries[i] ∧ (s.releaseRefs sel).entries[i].lookupRefs = holding held i := by
    intro i
    obtain ⟨hdrains, hkeeps, hother⟩ := hrel i
    have hc := hcount i
    have hok := h.entryOk i
    by_cases hi : i ∈ sel.sources
    · rw [if_pos hi] at hc
      by_cases hd : Drains s i
      · rw [hdrains hi hd]
        obtain ⟨-, -, hm, hp, -⟩ := entryOk_draining hok hd.1
        refine ⟨⟨rfl, hm.symm, hp.symm, ?_⟩, entryOk_freed _, ?_⟩
        · rintro (hne | hne)
          · exact absurd hm hne
          · exact absurd hp hne
        · have h1 := hd.2
          show 0 = _
          omega
      · rw [hkeeps hi hd]
        refine ⟨⟨rfl, rfl, rfl, fun _ => rfl⟩, entryOk_lookupRefs hok ?_ ?_, ?_⟩
        · intro hst
          have h0 := entryOk_idle_lookupRefs hok hst
          omega
        · intro hst
          have h1 : ¬ s.entries[i].lookupRefs ≤ 1 := fun hle => hd ⟨hst, hle⟩
          omega
        · show s.entries[i].lookupRefs - 1 = _
          omega
    · rw [if_neg hi] at hc
      rw [hother hi]
      exact ⟨Steady.refl _, hok, hc⟩
  exact h.steady hviews hlists (fun i => (hentry i).1) (fun i => (hentry i).2.1) (fun i => (hentry i).2.2)
    (fun sel' hs => h.selections sel' (List.mem_cons_of_mem _ hs))

theorem countP_eq_of_nodup {l : List EntryIndex} (h : l.Nodup) (i : EntryIndex) :
    l.countP (fun j => j = i) = if i ∈ l then 1 else 0 := by
  rw [← h.count]
  rfl

/-- References on LIVE entries taken: the selection is held. -/
theorem HeldLaw.takeRefs {s : State} {sel : Selection} {held : List Selection} (h : HeldLaw s held)
    (hsel : SelectionOk s sel) (hlive : ∀ i ∈ sel.sources, s.entries[i].state = .live) :
    HeldLaw (s.takeRefs sel) (sel :: held) := by
  have hviews : (s.takeRefs sel).views = s.views := by rw [takeRefs_frame]
  have hlists : (s.takeRefs sel).lists = s.lists := by rw [takeRefs_frame]
  have hent : ∀ i : EntryIndex, (s.takeRefs sel).entries[i] =
      { s.entries[i] with lookupRefs := s.entries[i].lookupRefs + if i ∈ sel.sources then 1 else 0 } := by
    intro i
    rw [takeRefs_entries, countP_eq_of_nodup hsel.1]
  refine h.steady hviews hlists ?_ ?_ ?_ ?_
  · intro i
    rw [hent i]
    exact ⟨rfl, rfl, rfl, fun _ => rfl⟩
  · intro i
    rw [hent i]
    refine entryOk_lookupRefs (h.entryOk i) ?_ ?_
    · intro hst
      by_cases hi : i ∈ sel.sources
      · rw [hlive i hi] at hst
        rcases hst with hst | hst <;> cases hst
      · rw [if_neg hi, Nat.add_zero]
    · intro hst
      exact (entryOk_draining (h.entryOk i) hst).2.2.2.2.trans (Nat.le_add_right _ _)
  · intro i
    rw [hent i, holding_cons, ← h.lookups i]
  · intro sel' hs
    rcases List.mem_cons.1 hs with rfl | hs
    · exact hsel
    · exact h.selections sel' hs

/-- The selection of a key may be held. -/
theorem HeldLaw.selectionOk_select {s : State} {held : List Selection} (h : HeldLaw s held) (p : Stream) (key : Word) :
    SelectionOk s (s.select p key) := by
  obtain ⟨hA, hB⟩ := anchors_select s p key
  refine ⟨sources_selectionOf_nodup (choiceOk_choose _ _) (h.distinct p), ?_, ?_⟩
  · intro hd hh
    obtain ⟨a, ha, rfl⟩ := hA hd hh
    exact (h.members p).2 a ha
  · intro hd hh
    obtain ⟨a, ha, rfl⟩ := hB hd hh
    exact (h.members p).2 a ha

/-! ### The laws with every queue counted -/

theorem judgeTimer_queue (x : Port) : x.judgeTimer.queue = x.queue := by
  unfold Port.judgeTimer
  split
  · rfl
  · split <;> rfl

/-- The selections of the lookups accepted on the ports other than p. -/
def othersHeld (s : State) (p : Stream) : List Selection :=
  (allStreams.filter (fun q => q ≠ p)).flatMap (selectionsAt s)

theorem selectionsHeld_perm (s : State) (p : Stream) :
    (selectionsHeld s).Perm (selectionsAt s p ++ othersHeld s p) := by
  have hperm : allStreams.Perm (p :: allStreams.filter (fun q => q ≠ p)) := by
    revert p
    decide
  exact hperm.flatMap_right _

theorem selectionsHeld_congr {s t : State} (h : ∀ p : Stream, selectionsAt t p = selectionsAt s p) :
    selectionsHeld t = selectionsHeld s := by
  unfold selectionsHeld
  exact List.flatMap_congr (fun p _ => h p)

/-- RecordLaw but for the engine's part, and no queue longer than R117 gives. -/
structure Sound (s : State) : Prop where
  held : HeldLaw s (selectionsHeld s)
  queues : ∀ p : Stream, s.ports[p].queue.length ≤ 2

namespace Sound

variable {s r : State} {p : Stream}

theorem onPort (h : Sound s) (p : Stream) : HeldLaw s (s.ports[p].queue.map Lookup.selection ++ othersHeld s p) :=
  h.held.perm (selectionsHeld_perm s p)

/-- One port's record replaced, its queue counted. -/
theorem setPort {x : Port} (h : Sound s) (hports : r.ports = s.ports)
    (hr : HeldLaw r (x.queue.map Lookup.selection ++ othersHeld s p)) (hx : x.queue.length ≤ 2) :
    Sound (r.setPort p x) := by
  have hget : ∀ q : Stream, q ≠ p → (r.setPort p x).ports[q] = s.ports[q] := by
    intro q hq
    rw [setPort_get_other _ _ _ _ hq, hports]
  have hothers : othersHeld (r.setPort p x) p = othersHeld s p := by
    refine List.flatMap_congr (fun q hq => ?_)
    have hqp : q ≠ p := by simpa using (List.mem_filter.1 hq).2
    unfold selectionsAt
    rw [hget q hqp]
  refine ⟨?_, ?_⟩
  · refine HeldLaw.perm (held := x.queue.map Lookup.selection ++ othersHeld s p) ?_ ?_
    · exact hr.congr rfl rfl rfl
    · have hperm := selectionsHeld_perm (r.setPort p x) p
      rw [hothers] at hperm
      unfold selectionsAt at hperm
      rw [setPort_get_same] at hperm
      exact hperm.symm
  · intro q
    by_cases hq : q = p
    · subst hq
      rw [setPort_get_same]
      exact hx
    · rw [hget q hq]
      exact h.queues q

/-- A port changed so that its queue holds the same selections. -/
theorem modPort (h : Sound s) (f : Port → Port)
    (hf : (f s.ports[p]).queue.map Lookup.selection = s.ports[p].queue.map Lookup.selection) : Sound (s.modPort p f) := by
  refine h.setPort rfl ?_ ?_
  · rw [hf]
    exact h.onPort p
  · have hlen := congrArg List.length hf
    rw [List.length_map, List.length_map] at hlen
    rw [hlen]
    exact h.queues p

theorem send (h : Sound s) (ms : List OutMessage) : Sound (s.send p ms) := h.modPort _ rfl

theorem foldl {α : Type} {f : State → α → State} (hf : ∀ s a, Sound s → Sound (f s a)) (l : List α) (h : Sound s) :
    Sound (l.foldl f s) := by
  induction l generalizing s with
  | nil => exact h
  | cons a l ih => exact ih (hf s a h)

/-! ### Lookups that end -/

theorem endHead (h : Sound s) (ms : List OutMessage) : Sound (s.endHead p ms) := by
  cases hq : s.ports[p].queue with
  | nil =>
    unfold State.endHead
    rw [hq]
    exact h
  | cons l rest =>
    have hat := h.onPort p
    rw [hq] at hat
    have hrel : HeldLaw (s.releaseRefs l.selection) (rest.map Lookup.selection ++ othersHeld s p) := hat.releaseRefs
    have hports : (s.releaseRefs l.selection).ports = s.ports := by rw [releaseRefs_frame]
    have hlen := h.queues p
    rw [hq, List.length_cons] at hlen
    rw [endHead_eq ms hq]
    cases rest with
    | nil => exact h.setPort hports hrel (Nat.zero_le 2)
    | cons w ws => exact h.setPort hports hrel (Nat.le_of_succ_le hlen)

theorem endWaiting (h : Sound s) (ms : List OutMessage) : Sound (s.endWaiting p ms) := by
  have hlen := h.queues p
  have hat := h.onPort p
  match hq : s.ports[p].queue with
  | [] =>
    unfold State.endWaiting
    rw [hq]
    exact h
  | [l] =>
    unfold State.endWaiting
    rw [hq]
    exact h
  | [l, w] =>
    rw [hq] at hat
    have hrel : HeldLaw (s.releaseRefs w.selection) (l.selection :: othersHeld s p) :=
      (hat.perm (List.Perm.swap w.selection l.selection (othersHeld s p))).releaseRefs
    have hports : (s.releaseRefs w.selection).ports = s.ports := by rw [releaseRefs_frame]
    rw [endWaiting_eq ms hq]
    exact h.setPort hports hrel (Nat.le_succ 1)
  | _ :: _ :: _ :: _ =>
    rw [hq] at hlen
    simp at hlen

/-- Every lookup of a port ended. -/
theorem releaseAll (h : Sound s) (f : Port → Port) (hf : (f s.ports[p]).queue = []) :
    Sound ((s.ports[p].queue.foldl (fun s l => s.releaseRefs l.selection) s).modPort p f) := by
  have key : ∀ (q : List Lookup) (r : State), r.ports = s.ports →
      HeldLaw r (q.map Lookup.selection ++ othersHeld s p) →
      (q.foldl (fun s l => s.releaseRefs l.selection) r).ports = s.ports ∧
        HeldLaw (q.foldl (fun s l => s.releaseRefs l.selection) r) (othersHeld s p) := by
    intro q
    induction q with
    | nil => exact fun r hr hheld => ⟨hr, hheld⟩
    | cons l q ih =>
      intro r hr hheld
      refine ih _ ?_ hheld.releaseRefs
      show (r.releaseRefs l.selection).ports = s.ports
      rw [releaseRefs_frame]
      exact hr
  obtain ⟨hports, hheld⟩ := key s.ports[p].queue s rfl (h.onPort p)
  unfold State.modPort
  rw [hports]
  refine h.setPort hports ?_ ?_
  · rw [hf]
    exact hheld
  · rw [hf]
    exact Nat.zero_le 2

/-! ### A lookup accepted -/

theorem acceptLookup (h : Sound s) (c : ViewConfig) (tag : Byte) (key : Word) (first count : Nat)
    (hlen : s.ports[p].queue.length < 2) : Sound (s.acceptLookup p c tag key first count) := by
  have htake : HeldLaw (s.takeRefs (s.select p key))
      (s.select p key :: (s.ports[p].queue.map Lookup.selection ++ othersHeld s p)) :=
    (h.onPort p).takeRefs (h.held.selectionOk_select p key) (live_select (fun _ _ ha => h.held.live ha) p key)
  have hports : (s.takeRefs (s.select p key)).ports = s.ports := by rw [takeRefs_frame]
  by_cases hq : s.ports[p].queue = []
  · rw [hq] at htake
    rw [acceptLookup_head hq]
    have hqueue := judgeTimer_queue { s.ports[p] with
      queue := [acceptedLookup s p c tag key first count]
      out := s.ports[p].out ++ [.header ((s.takeRefs (s.select p key)).headerOf p
        (acceptedLookup s p c tag key first count))] }
    refine h.setPort hports ?_ ?_
    · rw [hqueue]
      exact htake
    · rw [hqueue]
      exact Nat.le_succ 1
  · rw [acceptLookup_waiting hq]
    refine h.setPort hports (htake.perm ?_) ?_
    · rw [List.map_append, List.append_assoc]
      exact List.perm_middle.symm
    · rw [List.length_append]
      exact hlen

theorem takeLookup (h : Sound s) (tag : Byte) (key : Word) (first count : Nat) :
    Sound (s.takeLookup p tag key first count) := by
  unfold State.takeLookup
  dsimp only
  split
  · exact h.send _
  · split
    · exact h.send _
    · split
      · exact h.send _
      · split
        · exact h.send _
        · next hlen =>
          split
          · exact h.send _
          · split
            · exact h.acceptLookup _ tag key first count (Nat.not_le.1 hlen)
            · exact h.send _

end Sound

end Sys2Proof.ProfileTable

/-! PROOFS. The laws of the records under the messages of the link, the stall timers and the Surface Engine's rows. -/

namespace Sys2Proof.ProfileTable

open Sys2Proof Sys2Proof.Machine Sys2Proof.Safety

/-! ### The head of a queue changed in place -/

theorem cancelHead_selections (x : Port) :
    x.cancelHead.queue.map Lookup.selection = x.queue.map Lookup.selection := by
  unfold Port.cancelHead
  split
  · rfl
  · next h => rw [h]; rfl

theorem resetHead_selections (x : Port) :
    x.resetHead.queue.map Lookup.selection = x.queue.map Lookup.selection := by
  unfold Port.resetHead
  split
  · rfl
  · next h => rw [h]; rfl

theorem grantHead_selections (x : Port) :
    x.grantHead.queue.map Lookup.selection = x.queue.map Lookup.selection := by
  unfold Port.grantHead
  split
  · rfl
  · next h => rw [h]; rfl

theorem makeRow_selections (x : Port) (r : Nat) (ks : List Knot) :
    (x.makeRow r ks).queue.map Lookup.selection = x.queue.map Lookup.selection := by
  unfold Port.makeRow
  split
  · rfl
  · next h => rw [h]; rfl

theorem judgeTimer_selections (x : Port) :
    x.judgeTimer.queue.map Lookup.selection = x.queue.map Lookup.selection := by
  rw [judgeTimer_queue]

/-! ### A resetting head (R133) -/

/-- A head is alone in its queue while it is resetting (R133). -/
def ResettingAlone (x : Port) : Prop := ∀ l rest, x.queue = l :: rest → l.resetting = true → rest = []

theorem length_of_resettingAlone {x : Port} {l : Lookup} {rest : List Lookup} (h : ResettingAlone x)
    (hq : x.queue = l :: rest) (hr : l.resetting = true) : x.queue.length ≤ 1 := by
  rw [hq, h l rest hq hr]
  exact Nat.le_refl 1

namespace Sound

variable {s t : State} {p : Stream}

theorem congr (h : Sound s) (he : t.entries = s.entries) (hv : t.views = s.views) (hl : t.lists = s.lists)
    (hp : t.ports = s.ports) : Sound t := by
  refine ⟨?_, ?_⟩
  · rw [selectionsHeld_congr (s := s) (fun q => by unfold selectionsAt; rw [hp])]
    exact h.held.congr he hv hl
  · rw [hp]
    exact h.queues

/-! ### Messages (R118 to R133) -/

theorem takeCredit (h : Sound s) (n : Nat) : Sound (s.takeCredit p n) := by
  refine h.modPort (p := p) (fun x => if 4 < x.credits + n then _ else _) ?_
  dsimp only
  split <;> rfl

theorem takeCancel (h : Sound s) (tag : Byte) : Sound (s.takeCancel p tag) := by
  unfold State.takeCancel
  split
  · exact h.send _
  · split
    · split
      · exact h.endHead _
      · exact h.modPort _ (cancelHead_selections _)
    · split
      · exact h.send _
      · split
        · exact h.endWaiting _
        · exact h.send _

theorem takeReset (h : Sound s) : Sound (s.takeReset p) := by
  unfold State.takeReset
  split
  · exact h.modPort _ rfl
  · next l rest hq =>
    split
    · exact (h.endWaiting []).modPort _ (resetHead_selections _)
    · rw [← hq]
      exact h.releaseAll _ rfl

theorem takeMessage (h : Sound s) (m : LinkMessage) : Sound (s.takeMessage p m) := by
  cases m with
  | lookup tag key first count => exact h.takeLookup tag key _ _
  | credit n =>
    unfold State.takeMessage
    dsimp only
    split
    · exact h.takeCredit _
    · exact h
  | cancel tag =>
    unfold State.takeMessage
    dsimp only
    split
    · exact h.takeCancel tag
    · exact h
  | reset =>
    unfold State.takeMessage
    dsimp only
    split
    · exact h.takeReset
    · exact h

theorem arrive (h : Sound s) (m : LinkMessage) : Sound (s.arrive p m) := by
  unfold State.arrive
  split
  · split
    · exact h.modPort _ rfl
    · exact h.send _
  · exact h.takeMessage m

theorem discard (h : Sound s) : Sound (s.discard p) := by
  have hskip : Sound (s.modPort p (fun x => { x with framing := .skipping })) := h.modPort _ rfl
  unfold State.discard
  dsimp only
  split
  · exact hskip.send _
  · exact hskip

theorem judgeMessage (h : Sound s) (bytes : List Byte) : Sound (s.judgeMessage p bytes) := by
  unfold State.judgeMessage
  split
  · split
    · exact h.arrive _
    · exact h.discard
  · exact h.discard

theorem receiveByte (h : Sound s) (b : Byte) : Sound (s.receiveByte p b) := by
  unfold State.receiveByte
  split
  · split
    · exact h.modPort _ rfl
    · exact h
  · split
    · exact h
    · split
      · exact h.discard
      · exact h.modPort _ rfl
  · dsimp only
    split
    · exact h.discard
    · split
      · exact h.modPort _ rfl
      · exact (h.modPort (p := p) (fun x => { x with framing := .waiting }) rfl).judgeMessage _

theorem receive (h : Sound s) (bytes : List Byte) : Sound (s.receive p bytes) :=
  h.foldl (fun _ b hs => hs.receiveByte b) bytes

/-! ### Timers and the enable flag (R129, R134) -/

theorem expire (h : Sound s) : Sound (s.expire p) := by
  unfold State.expire
  split
  · exact h
  · exact h.endHead _

theorem tick (h : Sound s) : Sound s.tick := by
  unfold State.tick
  split
  · exact h.expire
  · exact h.foldl (fun _ q hs => hs.modPort (p := q) _ rfl) allStreams

theorem waitingDisabled (h : Sound s) (rest : List Lookup) : Sound (waitingDisabled s p rest) := by
  cases rest with
  | nil => exact h
  | cons w ws => exact h.endWaiting _

theorem disablePort (h : Sound s) : Sound (s.disablePort p) := by
  cases hq : s.ports[p].queue with
  | nil =>
    rw [disablePort_nil hq]
    exact h
  | cons l rest =>
    rw [disablePort_cons hq]
    split
    · exact (h.waitingDisabled rest).endHead _
    · split
      · exact h.waitingDisabled rest
      · exact (h.waitingDisabled rest).modPort _ (cancelHead_selections _)

/-! ### Rows handed over (R133, R139, R142) -/

/-- A resetting head is alone in its queue when its granted row comes back (R133). -/
theorem finishReset (h : Sound s) (hlen : s.ports[p].queue.length ≤ 1) : Sound (s.finishReset p) := by
  unfold State.finishReset
  split
  · exact h
  · next l rest hq =>
    have hrest : rest = [] := by
      rw [hq] at hlen
      exact List.length_eq_zero_iff.1 (Nat.le_zero.1 (Nat.le_of_succ_le_succ hlen))
    have hat := h.onPort p
    rw [hq, hrest] at hat
    have hports : (s.releaseRefs l.selection).ports = s.ports := by rw [releaseRefs_frame]
    refine foldl (fun _ m hs => hs.takeMessage m) _ ?_
    exact h.setPort hports hat.releaseRefs (Nat.zero_le 2)

theorem handOver (h : Sound s) {l : Lookup} {rest : List Lookup} (hq : s.ports[p].queue = l :: rest)
    (halone : ResettingAlone s.ports[p]) (r : Nat) (ks : List Knot) : Sound (s.handOver p l r ks) := by
  have hidle : Sound { s with datapath := none } := h.congr rfl rfl rfl rfl
  unfold State.handOver
  dsimp only
  split
  · next hr => exact hidle.finishReset (length_of_resettingAlone halone hq hr)
  · have hrow := hidle.modPort (p := p) (fun x => x.makeRow r ks) (makeRow_selections _ r ks)
    split
    · exact hrow.endHead _
    · split
      · exact hrow.endHead _
      · exact hrow.modPort _ (judgeTimer_selections _)

end Sound

/-! ### The whole law -/

/-- The laws of the records, and no queue longer than R117 gives. -/
theorem recordLaw_of_sound {s : State} (h : Sound s) (he : EngineLaw s) : RecordLaw s := recordLaw_iff.2 ⟨h.held, he⟩

theorem sound_of_laws {s : State} (hr : RecordLaw s) (hs : ServingLaw s) : Sound s :=
  ⟨(recordLaw_iff.1 hr).1, fun p => (hs.1 p).1.1⟩

theorem anchorsLive_of_recordLaw {s : State} (h : RecordLaw s) : AnchorsLive s :=
  fun _ _ ha => (recordLaw_iff.1 h).1.live ha

theorem resettingAlone_of_servingLaw {s : State} (h : ServingLaw s) (p : Stream) : ResettingAlone s.ports[p] := by
  intro l rest hq hr
  obtain ⟨-, -, -, -, -, hhead, -⟩ := (h.1 p).1
  rw [hq] at hhead
  obtain ⟨-, -, hreset⟩ := hhead l rfl
  exact List.length_eq_zero_iff.1 (Nat.succ.inj (hreset hr).1)

/-! ### The engine's part (R38 to R43, R154 to R162) -/

/-- EngineLaw of the four jobs and the start-up load goes by the entries they work on, the slots, and, while STARTING, the
views and lists. -/
theorem engineLaw_mono {s t : State} (h : EngineLaw s) (he : t.engine = s.engine) (hslots : t.slots = s.slots)
    (hload : ∀ i : EntryIndex, s.entries[i].state = .loading →
      t.entries[i].state = .loading ∧ t.entries[i].profile = s.entries[i].profile)
    (hused : ∀ i : EntryIndex, s.entries[i].state = .staged ∨ s.entries[i].state = .live →
      t.entries[i].state = .staged ∨ t.entries[i].state = .live)
    (hstart : isStarting s = true → t.views = s.views ∧ t.lists = s.lists) : EngineLaw t := by
  unfold EngineLaw at h ⊢
  rw [he]
  split at h
  · trivial
  · exact (hload _ h).1
  · exact hused _ h
  · obtain ⟨hst, hread⟩ := h
    obtain ⟨hst', hprofile⟩ := hload _ hst
    rw [hslots, hprofile]
    exact ⟨hst', hread⟩
  · obtain ⟨hst, hslot⟩ := h
    rw [hslots]
    exact ⟨hused _ hst, hslot⟩
  · next heng =>
    obtain ⟨hviews, hlists⟩ := hstart (by unfold isStarting; rw [heng])
    obtain ⟨hreset, hconfig, hentry⟩ := h
    rw [hviews, hlists, hslots]
    refine ⟨hreset, hconfig, fun i hi => ?_⟩
    obtain ⟨hst, hread⟩ := hentry i hi
    obtain ⟨hst', hprofile⟩ := hload i hst
    rw [hprofile]
    exact ⟨hst', hread⟩

theorem engineLaw_idle {s : State} (h : s.engine = .idle) : EngineLaw s := by
  unfold EngineLaw
  rw [h]
  trivial

/-- An entry that serving has not drained keeps its state and its profile. -/
theorem ServeKept.state_profile {e e' : Entry} (h : ServeKept e e') (hst : e.state ≠ .draining) :
    e'.state = e.state ∧ e'.profile = e.profile := by
  rcases h with ⟨r, rfl, -⟩ | ⟨hd, -⟩
  · exact ⟨rfl, rfl⟩
  · exact absurd hd hst

theorem engineLaw_of_serves {s t : State} (h : EngineLaw s) (hl : AnchorsLive s) (hs : Serves s t) : EngineLaw t := by
  refine engineLaw_mono h hs.engine hs.slots ?_ ?_ (fun _ => ⟨hs.views, hs.lists⟩)
  · intro i hst
    obtain ⟨hst', hprofile⟩ := (hs.kept hl i).state_profile (by rw [hst]; exact EntryState.noConfusion)
    exact ⟨hst'.trans hst, hprofile⟩
  · intro i hst
    have hne : s.entries[i].state ≠ .draining := by
      rcases hst with hst | hst <;> (rw [hst]; exact EntryState.noConfusion)
    rw [((hs.kept hl i).state_profile hne).1]
    exact hst

/-- Serving keeps the laws of the records. -/
theorem recordLaw_of_serves {s t : State} (h : RecordLaw s) (hs : Serves s t) (ht : Sound t) : RecordLaw t :=
  recordLaw_of_sound ht (engineLaw_of_serves (recordLaw_iff.1 h).2 (anchorsLive_of_recordLaw h) hs)

end Sys2Proof.ProfileTable

/-! PROOFS. What one step does to the records: the laws kept, and the events that lists, views and entries change at. -/

namespace Sys2Proof.ProfileTable

open Sys2Proof Sys2Proof.Machine Sys2Proof.Safety

/-! ### The moves of a list, a view and an entry in a step of command c -/

/-- What becomes of stream n's list, ARMED for T. -/
def ListMoved (c : Option Instr) (s t : State) (n : Stream) (T : Word) : Prop :=
  t.lists[n] = s.lists[n] ∨
    (t.lists[n] = { edits := [], target := none } ∧ t.points[n].counter = T) ∨
    (t.lists[n] = { edits := s.lists[n].edits, target := none } ∧ ∃ r, c = some r ∧ BringsWithdraw r n) ∨
    (t.lists[n] = { edits := [], target := none } ∧ ∃ m st, c = some (.deviceReset m st))

/-- What becomes of stream n's view. -/
def ViewMoved (c : Option Instr) (s t : State) (n : Stream) : Prop :=
  (t.views[n].generation = s.views[n].generation ∧ t.views[n].anchors = s.views[n].anchors) ∨
    (t.views[n].generation = s.views[n].generation + 1 ∧ t.views[n].anchors = s.projected n ∧
      t.lists[n] = { edits := [], target := none } ∧
      ∃ T, s.lists[n].target = some T ∧ t.points[n].counter = T) ∨
    (t.views[n].generation = s.views[n].generation + 1 ∧ (∃ a, t.views[n].anchors = [a]) ∧ isStarting s = true ∧
      ∃ us, c = some (.slotLoad n us)) ∨
    (t.views[n].generation = 0 ∧ t.views[n].anchors = [] ∧ ∃ m st, c = some (.deviceReset m st))

/-- What becomes of entry i. -/
def EntryMoved (c : Option Instr) (s t : State) (i : EntryIndex) : Prop :=
  (t.entries[i].revision = s.entries[i].revision ∧ t.entries[i].profile = s.entries[i].profile ∧
    t.entries[i].pages = s.entries[i].pages ∧
    (t.entries[i].checkValue = s.entries[i].checkValue ∨
      (s.entries[i].state = .loading ∧ s.entries[i].checkValue = none)) ∧
    (s.entries[i].damaged = true → t.entries[i].damaged = true) ∧
    (t.entries[i].damaged = true → s.entries[i].damaged = true ∨
      ((s.entries[i].state = .staged ∨ s.entries[i].state = .live ∨ s.entries[i].state = .draining) ∧
        Alert.damaged i ∈ t.alerts))) ∨
  t.entries[i] = Entry.freed s.entries[i].revision ∨
  ((s.entries[i].state = .free ∨ ∃ n us, c = some (.slotLoad n us)) ∧
    t.entries[i].revision = s.entries[i].revision + 1 ∧ t.entries[i].state = .loading ∧
    t.entries[i].checkValue = none ∧ t.entries[i].damaged = false)

/-- What a step of command c keeps of the records, from s to t. -/
structure StepKeeps (c : Option Instr) (s t : State) : Prop where
  law : Sound s → EngineLaw s → (∀ p : Stream, ResettingAlone s.ports[p]) → RecordLaw t
  lists : ∀ (n : Stream) (T : Word), s.lists[n].target = some T → ListMoved c s t n T
  views : RecordLaw s → ∀ n : Stream, ViewMoved c s t n
  entries : RecordLaw s → (∀ m st, c ≠ some (.deviceReset m st)) → ∀ i : EntryIndex, EntryMoved c s t i

/-! ### Entries whose record stays -/

/-- The fields of an entry that last from its allocation until it is freed. -/
def SameRecord (e e' : Entry) : Prop :=
  e'.revision = e.revision ∧ e'.profile = e.profile ∧ e'.pages = e.pages ∧ e'.checkValue = e.checkValue ∧
    e'.damaged = e.damaged

theorem SameRecord.refl (e : Entry) : SameRecord e e := ⟨rfl, rfl, rfl, rfl, rfl⟩

theorem SameRecord.trans {e e' e'' : Entry} (h : SameRecord e e') (h' : SameRecord e' e'') : SameRecord e e'' := by
  obtain ⟨h1, h2, h3, h4, h5⟩ := h
  obtain ⟨k1, k2, k3, k4, k5⟩ := h'
  exact ⟨k1.trans h1, k2.trans h2, k3.trans h3, k4.trans h4, k5.trans h5⟩

section Moves

variable {c : Option Instr} {s t u : State}

theorem EntryMoved.of_sameRecord {i : EntryIndex} (h : SameRecord s.entries[i] t.entries[i]) : EntryMoved c s t i := by
  obtain ⟨hrev, hprofile, hpages, hcheck, hdam⟩ := h
  exact Or.inl ⟨hrev, hprofile, hpages, Or.inl hcheck, fun hd => hdam.trans hd, fun hd => Or.inl (hdam ▸ hd)⟩

theorem EntryMoved.of_eq {i : EntryIndex} (h : t.entries[i] = s.entries[i]) : EntryMoved c s t i :=
  EntryMoved.of_sameRecord (by rw [h]; exact SameRecord.refl _)

theorem EntryMoved.of_freed {i : EntryIndex} (h : t.entries[i] = Entry.freed s.entries[i].revision) :
    EntryMoved c s t i := Or.inr (Or.inl h)

theorem EntryMoved.of_serveKept {i : EntryIndex} (h : ServeKept s.entries[i] t.entries[i]) : EntryMoved c s t i := by
  rcases h with ⟨r, he, -⟩ | ⟨-, he⟩
  · exact EntryMoved.of_sameRecord (by rw [he]; exact SameRecord.refl _)
  · exact EntryMoved.of_freed he

theorem ViewMoved.of_eq {n : Stream} (h : t.views[n] = s.views[n]) : ViewMoved c s t n :=
  Or.inl ⟨by rw [h], by rw [h]⟩

theorem ListMoved.of_eq {n : Stream} {T : Word} (h : t.lists[n] = s.lists[n]) : ListMoved c s t n T := Or.inl h

/-! ### What EngineLaw, Sound and the moves go by -/

/-- EngineLaw goes by the engine, the entries, views, lists and slots. -/
theorem engineLaw_congr (he : t.entries = s.entries) (hv : t.views = s.views) (hl : t.lists = s.lists)
    (heng : t.engine = s.engine) (hslots : t.slots = s.slots) (h : EngineLaw s) : EngineLaw t := by
  refine engineLaw_mono h heng hslots ?_ ?_ (fun _ => ⟨hv, hl⟩)
  · intro i hst
    rw [he]
    exact ⟨hst, rfl⟩
  · intro i hst
    rw [he]
    exact hst

theorem recordLaw_congr (he : t.entries = s.entries) (hv : t.views = s.views) (hl : t.lists = s.lists)
    (hp : t.ports = s.ports) (heng : EngineLaw s → EngineLaw t) (h : RecordLaw s) : RecordLaw t := by
  obtain ⟨hheld, hengine⟩ := recordLaw_iff.1 h
  refine recordLaw_iff.2 ⟨?_, heng hengine⟩
  rw [selectionsHeld_congr (s := s) (fun q => by unfold selectionsAt; rw [hp])]
  exact hheld.congr he hv hl

namespace StepKeeps

/-- A step is judged by the records it starts from. -/
theorem congr_left (he : u.entries = s.entries) (hv : u.views = s.views) (hl : u.lists = s.lists)
    (hp : u.ports = s.ports) (heng : u.engine = s.engine) (hslots : u.slots = s.slots) (h : StepKeeps c u t) :
    StepKeeps c s t := by
  have hrec : RecordLaw s → RecordLaw u := recordLaw_congr he hv hl hp (engineLaw_congr he hv hl heng hslots)
  refine ⟨?_, ?_, ?_, ?_⟩
  · intro hs hengine halone
    exact h.law (hs.congr he hv hl hp) (engineLaw_congr he hv hl heng hslots hengine) (by rw [hp]; exact halone)
  · intro n T hT
    have hmoved := h.lists n T (by rw [hl]; exact hT)
    unfold ListMoved at hmoved ⊢
    rwa [hl] at hmoved
  · intro hs n
    have hmoved := h.views (hrec hs) n
    unfold ViewMoved State.projected isStarting at hmoved ⊢
    rwa [hl, hv, heng] at hmoved
  · intro hs hc i
    have hmoved := h.entries (hrec hs) hc i
    unfold EntryMoved at hmoved ⊢
    rwa [he] at hmoved

/-- What a step writes besides the records does not matter, but for the engine's part. -/
theorem congr_right (he : u.entries = t.entries) (hv : u.views = t.views) (hl : u.lists = t.lists)
    (hpoints : u.points = t.points) (hp : u.ports = t.ports) (halerts : ∀ i, Alert.damaged i ∈ t.alerts →
      Alert.damaged i ∈ u.alerts) (heng : EngineLaw t → EngineLaw u) (h : StepKeeps c s t) : StepKeeps c s u := by
  refine ⟨?_, ?_, ?_, ?_⟩
  · intro hs hengine halone
    exact recordLaw_congr he hv hl hp heng (h.law hs hengine halone)
  · intro n T hT
    have hmoved := h.lists n T hT
    unfold ListMoved at hmoved ⊢
    rwa [hl, hpoints]
  · intro hs n
    have hmoved := h.views hs n
    unfold ViewMoved at hmoved ⊢
    rwa [hl, hv, hpoints]
  · intro hs hc i
    have hmoved := h.entries hs hc i
    unfold EntryMoved at hmoved ⊢
    rw [he]
    rcases hmoved with ⟨h1, h2, h3, h4, h5, h6⟩ | hmoved
    · refine Or.inl ⟨h1, h2, h3, h4, h5, fun hd => (h6 hd).imp id ?_⟩
      rintro ⟨hst, hin⟩
      exact ⟨hst, halerts i hin⟩
    · exact Or.inr hmoved

/-- An answer placed. -/
theorem respond (h : StepKeeps c s t) (tag code : Byte) (r : Result) (d : List Byte) :
    StepKeeps c s (t.respond tag code r d) :=
  h.congr_right (t := t) (u := t.respond tag code r d) rfl rfl rfl rfl rfl (fun _ hi => hi) id

/-- A job's end. -/
theorem endJob (h : StepKeeps c s t) (tag code : Byte) (r : Result) (d : List Byte) :
    StepKeeps c s (t.endJob tag code r d) :=
  h.congr_right (t := t) (u := t.endJob tag code r d) rfl rfl rfl rfl rfl (fun _ hi => hi) (fun _ => engineLaw_idle rfl)

/-! ### The kinds of step -/

/-- Lookups served. -/
theorem of_serves (hs : Serves s t) (hsound : Sound s → (∀ p : Stream, ResettingAlone s.ports[p]) → Sound t) :
    StepKeeps c s t where
  law hsnd hengine halone := recordLaw_of_serves (recordLaw_of_sound hsnd hengine) hs (hsound hsnd halone)
  lists n T _ := ListMoved.of_eq (by rw [hs.lists])
  views _ n := ViewMoved.of_eq (by rw [hs.views])
  entries hr _ i := EntryMoved.of_serveKept (hs.kept (anchorsLive_of_recordLaw hr) i)

/-- The ports kept: entries, views and lists judged one by one. -/
theorem of_ports (hp : t.ports = s.ports)
    (hheld : RecordLaw s → ∀ held, HeldLaw s held → HeldLaw t held) (heng : RecordLaw s → EngineLaw t)
    (hlists : ∀ (n : Stream) (T : Word), s.lists[n].target = some T → ListMoved c s t n T)
    (hviews : RecordLaw s → ∀ n : Stream, ViewMoved c s t n)
    (hent : RecordLaw s → ∀ i : EntryIndex, EntryMoved c s t i) : StepKeeps c s t where
  law hs hengine _ := by
    have hr := recordLaw_of_sound hs hengine
    refine recordLaw_iff.2 ⟨?_, heng hr⟩
    rw [selectionsHeld_congr (s := s) (fun q => by unfold selectionsAt; rw [hp])]
    exact hheld hr _ hs.held
  lists := hlists
  views := hviews
  entries hr _ i := hent hr i

/-- Views, lists and ports kept: entries judged one by one. -/
theorem of_entries (hv : t.views = s.views) (hl : t.lists = s.lists) (hp : t.ports = s.ports)
    (hheld : RecordLaw s → ∀ held, HeldLaw s held → HeldLaw t held) (heng : RecordLaw s → EngineLaw t)
    (hent : RecordLaw s → ∀ i : EntryIndex, EntryMoved c s t i) : StepKeeps c s t :=
  of_ports hp hheld heng (fun _ _ _ => ListMoved.of_eq (by rw [hl])) (fun _ _ => ViewMoved.of_eq (by rw [hv])) hent

/-- Entries, views, lists and ports kept. -/
theorem of_quiet (he : t.entries = s.entries) (hv : t.views = s.views) (hl : t.lists = s.lists)
    (hp : t.ports = s.ports) (heng : RecordLaw s → EngineLaw t) : StepKeeps c s t :=
  of_entries hv hl hp (fun _ _ h => h.congr he hv hl) heng (fun _ _ => EntryMoved.of_eq (by rw [he]))

theorem refl (s : State) : StepKeeps c s s := of_quiet rfl rfl rfl rfl (fun h => (recordLaw_iff.1 h).2)

/-- Records, engine and slots kept. -/
theorem of_same (he : t.entries = s.entries) (hv : t.views = s.views) (hl : t.lists = s.lists)
    (hp : t.ports = s.ports) (heng : t.engine = s.engine) (hslots : t.slots = s.slots) : StepKeeps c s t :=
  of_quiet he hv hl hp (fun h => engineLaw_congr he hv hl heng hslots (recordLaw_iff.1 h).2)

theorem answer (s : State) (tag code : Byte) (r : Result) (d : List Byte) : StepKeeps c s (s.respond tag code r d) :=
  (refl s).respond tag code r d

/-- One entry written. -/
theorem of_entry {i : EntryIndex} {e : Entry} (he : t.entries = s.entries.set i e) (hv : t.views = s.views)
    (hl : t.lists = s.lists) (hp : t.ports = s.ports)
    (hheld : RecordLaw s → ∀ held, HeldLaw s held → HeldLaw t held) (heng : RecordLaw s → EngineLaw t)
    (hent : RecordLaw s → EntryMoved c s t i) : StepKeeps c s t := by
  refine of_entries hv hl hp hheld heng (fun hr j => ?_)
  by_cases hj : j = i
  · subst hj
    exact hent hr
  · exact EntryMoved.of_eq (by rw [he, getElem_set_other _ _ hj])

/-- Damage reported (R21). -/
theorem reportDamage (s : State) (i : EntryIndex) : StepKeeps c s (s.reportDamage i) := by
  have hheld : RecordLaw s → ∀ held, HeldLaw s held → HeldLaw (s.reportDamage i) held :=
    fun _ _ h => h.reportDamage i
  rw [reportDamage_eq] at hheld ⊢
  unfold damageReported at hheld ⊢
  split at hheld
  · next hst =>
    rw [if_pos hst]
    have hsame := getElem_set_same s.entries i { s.entries[i] with damaged := true }
    have hrec : ∀ j : EntryIndex, (s.entries.set i { s.entries[i] with damaged := true })[j] =
        { s.entries[j] with damaged := (s.entries.set i { s.entries[i] with damaged := true })[j].damaged } := by
      intro j
      by_cases hj : j = i
      · subst hj
        rw [hsame]
      · rw [getElem_set_other _ _ hj]
    refine of_entry (i := i) (e := { s.entries[i] with damaged := true }) rfl rfl rfl rfl hheld ?_ ?_
    · intro hr
      refine engineLaw_mono (recordLaw_iff.1 hr).2 rfl rfl ?_ ?_ (fun _ => ⟨rfl, rfl⟩)
      · intro j hj
        show (s.entries.set i _)[j].state = _ ∧ (s.entries.set i _)[j].profile = _
        rw [hrec j]
        exact ⟨hj, rfl⟩
      · intro j hj
        show (s.entries.set i _)[j].state = _ ∨ (s.entries.set i _)[j].state = _
        rw [hrec j]
        exact hj
    · intro _
      unfold EntryMoved
      dsimp only
      rw [hsame]
      exact Or.inl ⟨rfl, rfl, rfl, Or.inl rfl, fun _ => rfl,
        fun _ => Or.inr ⟨hst, mem_insertAlert.2 (Or.inl rfl)⟩⟩
  · next hst =>
    rw [if_neg hst]
    exact refl s

/-- An entry that nothing uses is freed (R13). -/
theorem of_freed {i : EntryIndex} (he : t.entries = (s.freeEntry i).entries) (hv : t.views = s.views)
    (hl : t.lists = s.lists) (hp : t.ports = s.ports) (hidle : t.engine = .idle)
    (h0 : RecordLaw s → s.entries[i].membership = 0 ∧ s.entries[i].pendingRefs = 0 ∧ s.entries[i].lookupRefs = 0) :
    StepKeeps c s t := by
  refine of_entry (i := i) (e := Entry.freed s.entries[i].revision) he hv hl hp ?_ (fun _ => engineLaw_idle hidle) ?_
  · intro hr held h
    obtain ⟨hm, hpend, hlook⟩ := h0 hr
    exact (h.freeEntry hm hpend hlook).congr he hv hl
  · intro _
    exact EntryMoved.of_freed (by rw [he, freeEntry_same])

/-- What nothing refers to and no view holds, in a LOADING entry. -/
theorem loading_unused (hr : RecordLaw s) {i : EntryIndex} (hst : s.entries[i].state = .loading) :
    s.entries[i].membership = 0 ∧ s.entries[i].pendingRefs = 0 ∧ s.entries[i].lookupRefs = 0 := by
  obtain ⟨-, -, -, hm, hp, hl⟩ := entryOk_loading (hr.1 i) hst
  exact ⟨hm, hp, hl⟩

/-- An allocation granted (R6). -/
theorem of_granted {i : EntryIndex} {pr : Profile} (he : t.entries = (granted s i pr).entries) (hv : t.views = s.views)
    (hl : t.lists = s.lists) (hp : t.ports = s.ports) (hi : s.entries[i].state = .free)
    (hgrid : GeometryOk pr.geometry) (hpages : pr.geometry.pageCount ≤ s.freePages.length)
    (heng : RecordLaw s → EngineLaw t) : StepKeeps c s t := by
  have hviews : (granted s i pr).views = s.views := by rw [granted_frame]
  have hlists : (granted s i pr).lists = s.lists := by rw [granted_frame]
  refine of_entries hv hl hp ?_ heng ?_
  · intro _ held h
    exact (h.granted hi hgrid hpages).congr he (hv.trans hviews.symm) (hl.trans hlists.symm)
  · intro _ j
    by_cases hj : j = i
    · subst hj
      refine Or.inr (Or.inr ⟨Or.inl hi, ?_⟩)
      rw [he, granted_entry_same]
      exact ⟨rfl, rfl, rfl, rfl⟩
    · exact EntryMoved.of_eq (by rw [he, granted_entry_other _ _ _ _ hj])

end StepKeeps

end Moves

end Sys2Proof.ProfileTable

/-! PROOFS. What the requests keep of the records. -/

namespace Sys2Proof.ProfileTable

open Sys2Proof Sys2Proof.Machine Sys2Proof.Safety

/-! ### What a check that passes says -/

theorem names_of_checkHandle {s : State} {h : RawHandle} {i : EntryIndex} (hc : s.checkHandle h = .ok i) :
    Names s h i := by
  unfold State.checkHandle at hc
  split at hc
  · next hlt =>
    dsimp only at hc
    split at hc
    · cases hc
    · next hno =>
      obtain ⟨hfree, hrev⟩ := not_or.1 hno
      cases hc
      exact ⟨rfl, hfree, not_not.1 hrev⟩
  · cases hc

theorem of_checkEdit {s : State} {b : Byte} {h : RawHandle} {n : Stream} {c : ViewConfig} {i : EntryIndex}
    (hc : s.checkEdit b h = .ok (n, c, i)) :
    s.views[n].config = some c ∧ s.lists[n].target = none ∧ s.checkHandle h = .ok i := by
  unfold State.checkEdit at hc
  split at hc
  · cases hc
  · split at hc
    · cases hc
    · next hcfg =>
      split at hc
      · cases hc
      · next ht =>
        split at hc
        · cases hc
        · split at hc
          · cases hc
          · next hh =>
            cases hc
            exact ⟨hcfg, ht, hh⟩

theorem maskByte_of_maskOf {b : Byte} {m : StreamMask} (h : maskOf b = some m) : MaskByte b m := by
  unfold maskOf at h
  split at h
  · next hlt =>
    cases h
    show b.toNat = _
    rw [BitVec.toNat_ofNat, Nat.mod_eq_of_lt hlt]
  · cases h

/-- The checks of a COMMIT passed by a stream: its projected layout is valid, and its list is UNARMED (R74). -/
theorem of_checkCommit {s : State} {t : Target} {n : Stream} {T : Word} (h : s.checkCommit t n = .ok T) :
    s.lists[n].target = none ∧ ∃ c, s.views[n].config = some c ∧ s.layoutFault c (s.projected n) = none := by
  unfold State.checkCommit at h
  split at h
  · cases h
  · next c hcfg =>
    split at h
    · cases h
    · split at h
      · cases h
      · next ht =>
        split at h
        · cases h
        · split at h
          · cases h
          · next hlay => exact ⟨ht, c, hcfg, hlay⟩

theorem of_checkCommits {s : State} {t : Target} {l : List Stream} {targets : List (Stream × Word)}
    (h : s.checkCommits t l = .ok targets) : ∀ p ∈ targets, s.checkCommit t p.1 = .ok p.2 := by
  induction l generalizing targets with
  | nil =>
    cases h
    exact fun p hp => absurd hp List.not_mem_nil
  | cons n ns ih =>
    unfold State.checkCommits at h
    split at h
    · cases h
    · next T hT =>
      split at h
      · cases h
      · next rest hrest =>
        cases h
        intro p hp
        rcases List.mem_cons.1 hp with rfl | hp
        · exact hT
        · exact ih hrest p hp

/-! ### Lists armed and disarmed one after another -/

theorem projected_retarget (s : State) (n m : Stream) (target : Option Word) :
    (s.setList n { s.lists[n] with target := target }).projected m = s.projected m := by
  unfold State.projected
  by_cases hm : m = n
  · subst hm
    rw [setList_get_same]
    rfl
  · rw [setList_get_other _ _ _ _ hm]
    rfl

/-- Lists armed for targets, each projected layout being valid, keep the laws. -/
theorem HeldLaw.foldl_arm {held : List Selection} (l : List (Stream × Word)) {s : State} (h : HeldLaw s held)
    (hl : ∀ p ∈ l, ∃ c, s.views[p.1].config = some c ∧ s.layoutFault c (s.projected p.1) = none) :
    HeldLaw (l.foldl (fun s p => s.arm p.1 p.2) s) held := by
  induction l generalizing s with
  | nil => exact h
  | cons p l ih =>
    have hp := hl p List.mem_cons_self
    have harm : HeldLaw (s.arm p.1 p.2) held := h.retarget (fun _ _ => hp)
    refine ih harm (fun q hq => ?_)
    obtain ⟨c, hcfg, hlay⟩ := hl q (List.mem_cons_of_mem _ hq)
    refine ⟨c, hcfg, ?_⟩
    have hproj : (s.arm p.1 p.2).projected q.1 = s.projected q.1 := projected_retarget s p.1 q.1 (some p.2)
    rw [hproj]
    exact hlay

theorem foldl_arm_frame (l : List (Stream × Word)) (s : State) :
    l.foldl (fun s p => s.arm p.1 p.2) s = { s with lists := (l.foldl (fun s p => s.arm p.1 p.2) s).lists } := by
  induction l generalizing s with
  | nil => rfl
  | cons p l ih =>
    rw [List.foldl_cons, ih]
    rfl

theorem foldl_arm_other (l : List (Stream × Word)) (s : State) {n : Stream} (h : ∀ p ∈ l, p.1 ≠ n) :
    (l.foldl (fun s p => s.arm p.1 p.2) s).lists[n] = s.lists[n] := by
  induction l generalizing s with
  | nil => rfl
  | cons p l ih =>
    rw [List.foldl_cons, ih _ (fun q hq => h q (List.mem_cons_of_mem _ hq)), State.arm,
      setList_get_other _ _ _ _ (h p List.mem_cons_self).symm]

theorem HeldLaw.foldl_disarm {held : List Selection} (l : List Stream) {s : State} (h : HeldLaw s held) :
    HeldLaw (l.foldl State.disarm s) held := by
  induction l generalizing s with
  | nil => exact h
  | cons n l ih => exact ih (h.retarget (fun _ hT => nomatch hT))

theorem HeldLaw.foldl_emptyList {held : List Selection} (l : List Stream) {s : State} (h : HeldLaw s held) :
    HeldLaw (l.foldl State.emptyList s) held := by
  induction l generalizing s with
  | nil => exact h
  | cons n l ih => exact ih (h.emptyList n)

/-! ### Points made one after another (R80, R94 to R96) -/

/-- An apply leaves an entry its state, or has settled it, STAGED or LIVE before and after. -/
theorem apply_state {s : State} {held : List Selection} (hs : HeldLaw s held) (n : Stream) (i : EntryIndex) :
    (s.apply n).entries[i].state = s.entries[i].state ∨
      ((s.entries[i].state = .staged ∨ s.entries[i].state = .live) ∧
        ((s.apply n).entries[i].state = .staged ∨ (s.apply n).entries[i].state = .live)) := by
  by_cases hnamed : ∃ e ∈ s.lists[n].edits, e.handle.index = i
  · obtain ⟨e, hmem, rfl⟩ := hnamed
    refine Or.inr ⟨entryOk_staged_or_live_of_pending (hs.entryOk _) (hs.pending_pos hmem), ?_⟩
    rw [apply_named ⟨e, hmem, rfl⟩]
    unfold settled stateOfMembership
    dsimp only
    split
    · exact Or.inl rfl
    · exact Or.inr rfl
  · rw [apply_unnamed (fun e he hi => hnamed ⟨e, he, hi⟩)]
    exact Or.inl rfl

/-- No list holds edits or a target while the engine is STARTING. -/
theorem lists_of_starting {s : State} (he : EngineLaw s) (hst : isStarting s = true) (n : Stream) :
    s.lists[n] = EditList.reset := by
  unfold isStarting at hst
  split at hst
  · next heng =>
    unfold EngineLaw at he
    rw [heng] at he
    exact he.1 n
  · cases hst
  · cases hst

/-- A point offered to stream n: points and counts change alone, or the list was ARMED for the count that its point made,
and is applied. -/
def Pointed (s t : State) (n : Stream) : Prop :=
  ∃ u : State, u = { s with points := u.points } ∧ (∀ m : Stream, m ≠ n → u.points[m] = s.points[m]) ∧
    (t = u ∨ (t = u.apply n ∧ s.lists[n].target = some u.points[n].counter))

namespace Pointed

variable {s t : State} {n : Stream}

theorem ports (h : Pointed s t n) : t.ports = s.ports := by
  obtain ⟨u, hu, -, rfl | ⟨rfl, -⟩⟩ := h
  · rw [hu]
  · rw [apply_eq, hu]

/-- The streams that no point is offered to keep their view, their list and their record. -/
theorem other (h : Pointed s t n) {m : Stream} (hm : m ≠ n) :
    t.views[m] = s.views[m] ∧ t.lists[m] = s.lists[m] ∧ t.points[m] = s.points[m] := by
  obtain ⟨u, hu, hpoints, rfl | ⟨rfl, -⟩⟩ := h
  · exact ⟨by rw [hu], by rw [hu], hpoints m hm⟩
  · rw [apply_eq]
    refine ⟨?_, ?_, hpoints m hm⟩
    · show (u.views.set n _)[m] = _
      rw [getElem_set_other _ _ hm, hu]
    · show (u.lists.set n _)[m] = _
      rw [getElem_set_other _ _ hm, hu]

theorem sameRecord (h : Pointed s t n) (i : EntryIndex) : SameRecord s.entries[i] t.entries[i] := by
  obtain ⟨u, hu, -, rfl | ⟨rfl, -⟩⟩ := h
  · rw [hu]
    exact SameRecord.refl _
  · have hentries : u.entries = s.entries := by rw [hu]
    rw [apply_entry_fields, hentries]
    exact SameRecord.refl _

theorem heldLaw {held : List Selection} (h : Pointed s t n) (hs : HeldLaw s held) : HeldLaw t held := by
  obtain ⟨u, hu, -, rfl | ⟨rfl, hT⟩⟩ := h
  · rw [hu]
    exact hs.congr rfl rfl rfl
  · have hlists : u.lists = s.lists := by rw [hu]
    have hheld : HeldLaw u held := by
      rw [hu]
      exact hs.congr rfl rfl rfl
    obtain ⟨c, hcfg, hlay⟩ := armed_projected (hheld.layouts n) (by rw [hlists]; exact hT)
    exact hheld.apply hcfg hlay

theorem engineLaw {held : List Selection} (h : Pointed s t n) (hs : HeldLaw s held) (he : EngineLaw s) :
    EngineLaw t := by
  obtain ⟨u, hu, -, rfl | ⟨rfl, hT⟩⟩ := h
  · rw [hu]
    exact engineLaw_congr rfl rfl rfl rfl rfl he
  · have hentries : u.entries = s.entries := by rw [hu]
    have hstate := apply_state (s := u) (hs.congr hentries (by rw [hu]) (by rw [hu])) n
    rw [hentries] at hstate
    refine engineLaw_mono he (by rw [apply_eq, hu]) (by rw [apply_eq, hu]) ?_ ?_ ?_
    · intro i hst
      refine ⟨?_, by rw [apply_entry_fields, hentries]⟩
      rcases hstate i with heq | ⟨hst', -⟩
      · exact heq.trans hst
      · rw [hst] at hst'
        rcases hst' with hst' | hst' <;> cases hst'
    · intro i hst
      rcases hstate i with heq | ⟨-, hst'⟩
      · rw [heq]
        exact hst
      · exact hst'
    · intro hst
      rw [lists_of_starting he hst n] at hT
      cases hT

end Pointed

/-- What points leave of a stream's view and list: nothing changed, or its due list applied. -/
def ListApplied (s t : State) (n : Stream) : Prop :=
  (t.views[n] = s.views[n] ∧ t.lists[n] = s.lists[n]) ∨
    (t.views[n] = appliedView s n ∧ t.lists[n] = { edits := [], target := none } ∧
      s.lists[n].target = some t.points[n].counter)

theorem Pointed.listApplied {s t : State} {n : Stream} (h : Pointed s t n) : ListApplied s t n := by
  obtain ⟨u, hu, -, rfl | ⟨rfl, hT⟩⟩ := h
  · exact Or.inl ⟨by rw [hu], by rw [hu]⟩
  · refine Or.inr ⟨?_, ?_, ?_⟩
    · rw [apply_view_same]
      unfold appliedView State.projected
      rw [hu]
    · rw [apply_eq]
      exact getElem_set_same _ _ _
    · rw [apply_eq]
      exact hT

section Points

variable {g : State → Stream → State} (hg : ∀ s n, Pointed s (g s n) n)
include hg

theorem foldl_pointed_ports (l : List Stream) (s : State) : (l.foldl g s).ports = s.ports := by
  induction l generalizing s with
  | nil => rfl
  | cons n l ih => rw [List.foldl_cons, ih, (hg s n).ports]

theorem foldl_pointed_other (l : List Stream) (s : State) {m : Stream} (hm : m ∉ l) :
    (l.foldl g s).views[m] = s.views[m] ∧ (l.foldl g s).lists[m] = s.lists[m] ∧
      (l.foldl g s).points[m] = s.points[m] := by
  induction l generalizing s with
  | nil => exact ⟨rfl, rfl, rfl⟩
  | cons n l ih =>
    obtain ⟨hne, hl⟩ := List.ne_and_not_mem_of_not_mem_cons hm
    obtain ⟨hv, hli, hp⟩ := (hg s n).other hne
    obtain ⟨hv', hli', hp'⟩ := ih (g s n) hl
    exact ⟨hv'.trans hv, hli'.trans hli, hp'.trans hp⟩

theorem foldl_pointed_listApplied (l : List Stream) (hl : l.Nodup) (s : State) (m : Stream) :
    ListApplied s (l.foldl g s) m := by
  induction l generalizing s with
  | nil => exact Or.inl ⟨rfl, rfl⟩
  | cons n l ih =>
    obtain ⟨hn, hl⟩ := List.nodup_cons.1 hl
    rw [List.foldl_cons]
    by_cases hm : m = n
    · subst hm
      obtain ⟨hv, hli, hp⟩ := foldl_pointed_other hg l (g s m) hn
      have hone := (hg s m).listApplied
      unfold ListApplied at hone ⊢
      rwa [hv, hli, hp]
    · obtain ⟨hv, hli, -⟩ := (hg s n).other hm
      have hrest := ih hl (g s n)
      unfold ListApplied appliedView State.projected at hrest ⊢
      rwa [hv, hli] at hrest

theorem foldl_pointed_sameRecord (l : List Stream) (s : State) (i : EntryIndex) :
    SameRecord s.entries[i] (l.foldl g s).entries[i] := by
  induction l generalizing s with
  | nil => exact SameRecord.refl _
  | cons n l ih => exact ((hg s n).sameRecord i).trans (ih (g s n))

theorem foldl_pointed_laws {held : List Selection} (l : List Stream) {s : State} (hs : HeldLaw s held)
    (he : EngineLaw s) : HeldLaw (l.foldl g s) held ∧ EngineLaw (l.foldl g s) := by
  induction l generalizing s with
  | nil => exact ⟨hs, he⟩
  | cons n l ih => exact ih ((hg s n).heldLaw hs) ((hg s n).engineLaw hs he)

/-- Points offered to distinct streams. -/
theorem StepKeeps.points {c : Option Instr} {l : List Stream} (hl : l.Nodup) (s : State) :
    StepKeeps c s (l.foldl g s) := by
  have happlied := foldl_pointed_listApplied hg l hl s
  refine StepKeeps.of_ports (foldl_pointed_ports hg l s) ?_ ?_ ?_ ?_ ?_
  · intro hr held h
    exact (foldl_pointed_laws hg l h (recordLaw_iff.1 hr).2).1
  · intro hr
    obtain ⟨hheld, he⟩ := recordLaw_iff.1 hr
    exact (foldl_pointed_laws hg l hheld he).2
  · intro n T hT
    rcases happlied n with ⟨-, hlist⟩ | ⟨-, hlist, hcount⟩
    · exact ListMoved.of_eq hlist
    · rw [hT] at hcount
      exact Or.inr (Or.inl ⟨hlist, (Option.some.inj hcount).symm⟩)
  · intro _ n
    rcases happlied n with ⟨hview, -⟩ | ⟨hview, hlist, hcount⟩
    · exact ViewMoved.of_eq hview
    · refine Or.inr (Or.inl ⟨?_, ?_, hlist, _, hcount, rfl⟩)
      · rw [hview]
        rfl
      · rw [hview]
        rfl
  · intro _ i
    exact EntryMoved.of_sameRecord (foldl_pointed_sameRecord hg l s i)

end Points

theorem pointed_makePoint (s : State) (n : Stream) : Pointed s (s.makePoint n) n := by
  refine ⟨counted s n, rfl, fun m hm => setPoint_get_other _ _ _ _ hm, ?_⟩
  by_cases hdue : DueOn s n
  · refine Or.inr ⟨makePoint_due hdue, ?_⟩
    rw [counted, setPoint_get_same]
    exact hdue
  · exact Or.inl (makePoint_not_due hdue)

theorem pointed_countEdge (s : State) (n : Stream) : Pointed s (s.countEdge n) n := by
  unfold State.countEdge
  split
  · obtain ⟨u, hu, hother, hcases⟩ := pointed_makePoint (s.setPoint n { s.points[n] with edgeCount := 0 }) n
    refine ⟨u, ?_, ?_, hcases⟩
    · rw [hu]
      rfl
    · intro m hm
      rw [hother m hm, setPoint_get_other _ _ _ _ hm]
  · exact ⟨_, rfl, fun m hm => setPoint_get_other _ _ _ _ hm, Or.inl rfl⟩

end Sys2Proof.ProfileTable

/-! PROOFS. Every request, judged on an IDLE engine: what it keeps of the records. -/

namespace Sys2Proof.ProfileTable

open Sys2Proof Sys2Proof.Machine Sys2Proof.Safety

namespace StepKeeps

variable {c : Option Instr} {s t : State}

/-! ### Entries and knots -/

theorem create (hidle : s.engine = .idle) (tag columns rows channels format : Byte) (label : Word) :
    StepKeeps c s (reqCreate tag columns rows channels format label s) := by
  unfold reqCreate
  split
  · next g f hg _ =>
    rcases allocate_cases s { origin := .host, geometry := g, format := f, label := label } with
      ⟨r, ha⟩ | ⟨i, hi, hp, ha⟩
    · rw [ha]
      exact answer s tag _ _ _
    · rw [ha]
      refine StepKeeps.respond ?_ tag _ _ _
      exact of_granted (i := i) rfl (by rw [granted_frame]) (by rw [granted_frame]) (by rw [granted_frame])
        (lowestFree_spec hi) (geometryOk_of_geometryOf hg) hp
        (fun _ => engineLaw_idle (by rw [granted_frame]; exact hidle))
  · exact answer s tag _ _ _

/-- A STAGED entry that only lookups use becomes DRAINING (R12). -/
theorem drain {i : EntryIndex} (hidle : s.engine = .idle) (hst : s.entries[i].state = .staged)
    (hp : s.entries[i].pendingRefs = 0) (hl : s.entries[i].lookupRefs ≠ 0) :
    StepKeeps c s (s.setEntry i { s.entries[i] with state := .draining }) := by
  refine of_entry (i := i) (e := { s.entries[i] with state := .draining }) rfl rfl rfl rfl ?_
    (fun _ => engineLaw_idle hidle) ?_
  · intro _ held h
    obtain ⟨hall, hcheck, hm⟩ := entryOk_staged (h.entryOk i) hst
    exact h.setEntry (i := i) (e := { s.entries[i] with state := .draining }) rfl rfl rfl ⟨rfl, rfl, rfl, fun _ => rfl⟩
      ⟨hall, hcheck, hm, hp, Nat.one_le_iff_ne_zero.2 hl⟩ rfl
  · intro _
    apply EntryMoved.of_sameRecord
    rw [setEntry_get_same]
    exact SameRecord.refl _

theorem delete (hidle : s.engine = .idle) (tag : Byte) (h : RawHandle) : StepKeeps c s (reqDelete tag h s) := by
  have hfree : ∀ i : EntryIndex, (RecordLaw s → s.entries[i].membership = 0 ∧ s.entries[i].pendingRefs = 0 ∧
      s.entries[i].lookupRefs = 0) → StepKeeps c s (s.freeEntry i) :=
    fun i h0 => of_freed rfl rfl rfl rfl hidle h0
  cases hc : s.checkHandle h with
  | error r =>
    rw [reqDelete_error hc]
    exact answer s tag _ _ _
  | ok i =>
    unfold reqDelete
    rw [hc]
    dsimp only
    split
    · next hst => exact (hfree i (fun hr => loading_unused hr hst)).respond tag _ _ _
    · next hst =>
      split
      · exact answer s tag _ _ _
      · next hp =>
        have hp0 : s.entries[i].pendingRefs = 0 := Nat.eq_zero_of_not_pos hp
        split
        · next hl =>
          refine (hfree i (fun hr => ⟨?_, hp0, hl⟩)).respond tag _ _ _
          exact (entryOk_staged (hr.1 i) hst).2.2
        · next hl => exact (drain hidle hst hp0 hl).respond tag _ _ _
    · exact answer s tag _ _ _
    · exact answer s tag _ _ _
    · exact answer s tag _ _ _

theorem queryProfile (tag : Byte) (h : RawHandle) : StepKeeps c s (reqQueryProfile tag h s) := by
  unfold reqQueryProfile
  split
  · dsimp only
    split
    · exact answer s tag _ _ _
    · exact answer s tag _ _ _
  · exact answer s tag _ _ _

theorem writeKnots (s : State) (i : EntryIndex) (first : Nat) (vs : List Knot) :
    StepKeeps c s (s.writeKnots i first vs) := by
  rw [writeKnots_frame]
  exact of_same rfl rfl rfl rfl rfl rfl

theorem writeKnotsRequest (tag : Byte) (h : RawHandle) (first : Word) (count : Byte) (ks : List Word) :
    StepKeeps c s (reqWriteKnots tag h first count ks s) := by
  unfold reqWriteKnots
  split
  · exact answer s tag _ _ _
  · split
    · exact answer s tag _ _ _
    · split
      · exact answer s tag _ _ _
      · split
        · exact answer s tag _ _ _
        · split
          · exact answer s tag _ _ _
          · split
            · exact answer s tag _ _ _
            · exact (writeKnots s _ _ _).respond tag _ _ _

theorem readKnots (tag : Byte) (h : RawHandle) (first : Word) (count : Byte) :
    StepKeeps c s (reqReadKnots tag h first count s) := by
  unfold reqReadKnots
  split
  · exact answer s tag _ _ _
  · split
    · exact answer s tag _ _ _
    · split
      · exact answer s tag _ _ _
      · split
        · exact answer s tag _ _ _
        · exact (reportDamage s _).respond tag _ _ _

/-- A job begun on entries, views, lists and slots as they stand. -/
theorem startJob (s : State) (tag code : Byte) (job : Job) (h : EngineLaw (s.startJob tag code job)) :
    StepKeeps c s (s.startJob tag code job) := of_quiet rfl rfl rfl rfl (fun _ => h)

theorem finish (tag : Byte) (h : RawHandle) (crc : Word) : StepKeeps c s (reqFinish tag h crc s) := by
  unfold reqFinish
  split
  · exact answer s tag _ _ _
  · split
    · exact answer s tag _ _ _
    · next hst => exact startJob s tag _ _ (not_not.1 hst)

theorem verify (tag : Byte) (h : RawHandle) : StepKeeps c s (reqVerify tag h s) := by
  unfold reqVerify
  split
  · exact answer s tag _ _ _
  · split
    · next hst => exact startJob s tag _ _ hst
    · exact answer s tag _ _ _

/-! ### Views and edits -/

theorem configureView (hidle : s.engine = .idle) (tag stream columns rows channels format : Byte) :
    StepKeeps c s (reqConfigureView tag stream columns rows channels format s) := by
  unfold reqConfigureView
  split
  · exact answer s tag _ _ _
  · next n _ =>
    split
    · next g f hg _ =>
      split
      · next hempty =>
        obtain ⟨hanchors, hedits, htarget⟩ := hempty
        have hlist : s.lists[n] = EditList.reset := by
          cases hl : s.lists[n] with
          | mk edits target =>
            rw [hl] at hedits htarget
            cases hedits
            cases htarget
            rfl
        refine StepKeeps.respond ?_ tag _ _ _
        refine of_ports rfl ?_ (fun _ => engineLaw_idle hidle) (fun _ _ _ => ListMoved.of_eq rfl) ?_
          (fun _ _ => EntryMoved.of_eq rfl)
        · intro _ held h
          refine h.configure (n := n) (c := { geometry := g, format := f }) rfl rfl ?_ (geometryOk_of_geometryOf hg)
            hanchors hlist
          rw [← hanchors]
          rfl
        · intro _ m
          refine Or.inl ?_
          by_cases hm : m = n
          · subst hm
            rw [setView_get_same]
            exact ⟨rfl, rfl⟩
          · rw [setView_get_other _ _ _ _ hm]
            exact ⟨rfl, rfl⟩
      · exact answer s tag _ _ _
    · exact answer s tag _ _ _

theorem queryView (tag stream : Byte) : StepKeeps c s (reqQueryView tag stream s) := by
  unfold reqQueryView
  split <;> exact answer s tag _ _ _

/-- An edit joined to an UNARMED list. -/
theorem joined (hidle : s.engine = .idle) {n : Stream} {cfg : ViewConfig} {e : Edit}
    (hcfg : s.views[n].config = some cfg) (ht : s.lists[n].target = none) (hcur : HandleCurrent s e.handle)
    (hst : RecordLaw s → s.entries[e.handle.index].state = .staged ∨ s.entries[e.handle.index].state = .live)
    (ha : ∀ hd k p, e = .attach hd k p → ¬ Holds (s.projected n) hd.index) : StepKeeps c s (joined s n e) := by
  refine of_ports rfl (fun hr _ h => h.joined hcfg ht hcur (hst hr) ha) (fun _ => engineLaw_idle hidle) ?_
    (fun _ _ => ViewMoved.of_eq rfl) ?_
  · intro m T hT
    have hm : m ≠ n := by
      rintro rfl
      rw [ht] at hT
      cases hT
    exact ListMoved.of_eq (getElem_set_other _ _ hm)
  · intro _ i
    apply EntryMoved.of_sameRecord
    by_cases hi : i = e.handle.index
    · subst hi
      show SameRecord _ (s.entries.set _ _)[_]
      rw [getElem_set_same]
      exact SameRecord.refl _
    · show SameRecord _ (s.entries.set _ _)[_]
      rw [getElem_set_other _ _ hi]
      exact SameRecord.refl _

theorem acceptEdit (tag code : Byte) {n : Stream} {e : Edit} (h : StepKeeps c s (ProfileTable.joined s n e)) :
    StepKeeps c s (s.acceptEdit tag code n e) := h.respond tag code _ _

/-- The handle that passed its check is current. -/
theorem handleCurrent_of_checkHandle {h : RawHandle} {i : EntryIndex} (hc : s.checkHandle h = .ok i) :
    HandleCurrent s { index := i, revision := h.revision } := (names_of_checkHandle hc).2.2

theorem attach (hidle : s.engine = .idle) (tag stream : Byte) (h : RawHandle) (key plateau : Word) :
    StepKeeps c s (reqAttach tag stream h key plateau s) := by
  unfold reqAttach
  split
  · exact answer s tag _ _ _
  · next n cfg i hc =>
    obtain ⟨hcfg, ht, hh⟩ := of_checkEdit hc
    split
    · exact answer s tag _ _ _
    · next hst =>
      split
      · exact answer s tag _ _ _
      · split
        · exact answer s tag _ _ _
        · split
          · exact answer s tag _ _ _
          · next hnew =>
            refine acceptEdit tag _ (joined hidle hcfg ht (handleCurrent_of_checkHandle hh) ?_ ?_)
            · intro _
              by_contra hno
              exact hst ⟨fun e => hno (Or.inl e), fun e => hno (Or.inr e)⟩
            · rintro hd k p ⟨rfl⟩ hin
              exact hnew (findAnchor_isSome.2 hin)

/-- An entry that stands in a projected view is STAGED or LIVE. -/
theorem used_of_projected (hr : RecordLaw s) {n : Stream} {i : EntryIndex}
    (h : (findAnchor i (s.projected n)).isSome = true) : s.entries[i].state = .staged ∨ s.entries[i].state = .live := by
  have hheld := (recordLaw_iff.1 hr).1
  exact entryOk_staged_or_live (hr.1 i) (hheld.projected_used (findAnchor_isSome.1 h))

theorem detach (hidle : s.engine = .idle) (tag stream : Byte) (h : RawHandle) :
    StepKeeps c s (reqDetach tag stream h s) := by
  unfold reqDetach
  split
  · exact answer s tag _ _ _
  · next n cfg i hc =>
    obtain ⟨hcfg, ht, hh⟩ := of_checkEdit hc
    split
    · next hin =>
      exact acceptEdit tag _ (joined hidle hcfg ht (handleCurrent_of_checkHandle hh)
        (fun hr => used_of_projected hr hin) (fun _ _ _ e => nomatch e))
    · exact answer s tag _ _ _

theorem move (hidle : s.engine = .idle) (tag stream : Byte) (h : RawHandle) (key plateau : Word) :
    StepKeeps c s (reqMove tag stream h key plateau s) := by
  unfold reqMove
  split
  · exact answer s tag _ _ _
  · next n cfg i hc =>
    obtain ⟨hcfg, ht, hh⟩ := of_checkEdit hc
    split
    · next hin =>
      exact acceptEdit tag _ (joined hidle hcfg ht (handleCurrent_of_checkHandle hh)
        (fun hr => used_of_projected hr hin) (fun _ _ _ e => nomatch e))
    · exact answer s tag _ _ _

theorem queryEdits (tag stream : Byte) : StepKeeps c s (reqQueryEdits tag stream s) := by
  unfold reqQueryEdits
  split <;> exact answer s tag _ _ _

/-! ### Commits, withdrawals, discards -/

/-- Lists armed: each was UNARMED, and its projected layout is valid. -/
theorem arm (hidle : s.engine = .idle) {l : List (Stream × Word)}
    (hl : ∀ p ∈ l, s.lists[p.1].target = none ∧
      ∃ c, s.views[p.1].config = some c ∧ s.layoutFault c (s.projected p.1) = none) :
    StepKeeps c s (l.foldl (fun s p => s.arm p.1 p.2) s) := by
  have hframe := foldl_arm_frame l s
  refine of_ports (by rw [hframe]) (fun _ _ h => h.foldl_arm l (fun p hp => (hl p hp).2))
    (fun _ => engineLaw_idle (by rw [hframe]; exact hidle)) ?_ (fun _ _ => ViewMoved.of_eq (by rw [hframe]))
    (fun _ _ => EntryMoved.of_eq (by rw [hframe]))
  intro n T hT
  apply ListMoved.of_eq
  apply foldl_arm_other
  rintro p hp rfl
  rw [(hl p hp).1] at hT
  cases hT

theorem commit (hidle : s.engine = .idle) (tag mask kind : Byte) (n : Word) :
    StepKeeps c s (reqCommit tag mask kind n s) := by
  unfold reqCommit
  split
  · split
    · exact answer s tag _ _ _
    · split
      · exact answer s tag _ _ _
      · next targets ht =>
        refine (arm hidle (fun p hp => ?_)).respond tag _ _ _
        exact of_checkCommit (of_checkCommits ht p hp)
  · exact answer s tag _ _ _

theorem withdraw (hidle : s.engine = .idle) (tag mask : Byte)
    (hc : ∀ m n, MaskByte mask m → inMask m n = true → ∃ r, c = some r ∧ BringsWithdraw r n) :
    StepKeeps c s (reqWithdraw tag mask s) := by
  unfold reqWithdraw
  split
  · exact answer s tag _ _ _
  · next m hm =>
    have hframe := foldl_disarm_frame (s.armedStreams m) s
    refine StepKeeps.respond (of_ports (by rw [hframe]) (fun _ _ h => h.foldl_disarm _)
      (fun _ => engineLaw_idle (by rw [hframe]; exact hidle)) ?_ (fun _ _ => ViewMoved.of_eq (by rw [hframe]))
      (fun _ _ => EntryMoved.of_eq (by rw [hframe]))) tag _ _ _
    intro n T _
    have hlist := disarm_armedStreams_lists s m n
    by_cases hn : inMask m n = true
    · rw [if_pos hn] at hlist
      exact Or.inr (Or.inr (Or.inl ⟨hlist, hc m n (maskByte_of_maskOf hm) hn⟩))
    · rw [if_neg hn] at hlist
      exact ListMoved.of_eq hlist

theorem discard (hidle : s.engine = .idle) (tag mask : Byte) : StepKeeps c s (reqDiscard tag mask s) := by
  unfold reqDiscard
  split
  · exact answer s tag _ _ _
  · next m hm =>
    have hframe := foldl_emptyList_frame (s.discardable m) s
    refine StepKeeps.respond (of_ports (by rw [hframe]) (fun _ _ h => h.foldl_emptyList _)
      (fun _ => engineLaw_idle (by rw [hframe]; exact hidle)) ?_ (fun _ _ => ViewMoved.of_eq (by rw [hframe])) ?_)
      tag _ _ _
    · intro n T hT
      apply ListMoved.of_eq
      rw [foldl_emptyList_lists, if_neg]
      intro hn
      rw [(mem_discardable.1 hn).2.1] at hT
      cases hT
    · intro _ i
      apply EntryMoved.of_sameRecord
      rw [foldl_emptyList_entries _ _ (nodup_discardable s m)]
      exact SameRecord.refl _

/-! ### Points -/

theorem point (tag mask : Byte) : StepKeeps c s (reqPoint tag mask s) := by
  unfold reqPoint
  split
  · exact answer s tag _ _ _
  · next m _ => exact (points pointed_makePoint (nodup_maskStreams m) s).respond tag _ _ _

theorem setPoints (tag stream source polarity prescale : Byte) :
    StepKeeps c s (reqSetPoints tag stream source polarity prescale s) := by
  unfold reqSetPoints
  split
  · split
    · exact answer s tag _ _ _
    · split
      · exact answer s tag _ _ _
      · exact of_same rfl rfl rfl rfl rfl rfl
  · exact answer s tag _ _ _

theorem foldl_clearCount_frame (l : List Stream) (s : State) :
    l.foldl State.clearCount s = { s with points := (l.foldl State.clearCount s).points } := by
  induction l generalizing s with
  | nil => rfl
  | cons n l ih =>
    rw [List.foldl_cons, ih]
    rfl

theorem clearCounts (tag mask : Byte) : StepKeeps c s (reqClearCounts tag mask s) := by
  unfold reqClearCounts
  split
  · exact answer s tag _ _ _
  · next m _ =>
    refine StepKeeps.respond ?_ tag _ _ _
    rw [foldl_clearCount_frame]
    exact of_same rfl rfl rfl rfl rfl rfl

/-! ### Ports -/

theorem setPort (tag port enable stallLimit : Byte) : StepKeeps c s (reqSetPort tag port enable stallLimit s) := by
  unfold reqSetPort
  split
  · next p e _ _ =>
    dsimp only
    refine StepKeeps.respond ?_ tag _ _ _
    have hmod := Serves.modPort s p (fun x => { x with enabled := e, stallLimit := stallLimit })
    have hsound : Sound s → Sound (s.modPort p (fun x => { x with enabled := e, stallLimit := stallLimit })) :=
      fun h => h.modPort _ rfl
    split
    · exact of_serves (hmod.trans (Serves.disablePort _ p)) (fun h _ => (hsound h).disablePort)
    · exact of_serves hmod (fun h _ => hsound h)
  · exact answer s tag _ _ _

theorem queryPort (tag port : Byte) : StepKeeps c s (reqQueryPort tag port s) := by
  unfold reqQueryPort
  split <;> exact answer s tag _ _ _

/-! ### Slots -/

theorem programBaseline (tag slot : Byte) (h : RawHandle) (key plateau : Word) :
    StepKeeps c s (reqProgramBaseline tag slot h key plateau s) := by
  unfold reqProgramBaseline
  split
  · exact answer s tag _ _ _
  · next n _ =>
    split
    · exact answer s tag _ _ _
    · next hblank =>
      split
      · exact answer s tag _ _ _
      · next i _ =>
        split
        · exact answer s tag _ _ _
        · next hst =>
          split
          · exact answer s tag _ _ _
          · refine startJob s tag _ _ ⟨?_, fun _ => reading_blank.1 (not_not.1 hblank), fun hne => absurd rfl hne⟩
            by_contra hno
            exact hst ⟨fun e => hno (Or.inl e), fun e => hno (Or.inr e)⟩

theorem restoreBaseline (tag slot : Byte) : StepKeeps c s (reqRestoreBaseline tag slot s) := by
  unfold reqRestoreBaseline
  split
  · exact answer s tag _ _ _
  · next n _ =>
    split
    · exact answer s tag _ _ _
    · exact answer s tag _ _ _
    · next f g fmt hread =>
      obtain ⟨-, -, hg, -⟩ := reading_programmed hread
      rcases allocate_cases s (slotProfile n f g fmt) with ⟨r, ha⟩ | ⟨i, hi, hp, ha⟩
      · rw [ha]
        exact answer s tag _ _ _
      · rw [ha]
        have hent := granted_entry_same s i (slotProfile n f g fmt)
        have hviews : (granted s i (slotProfile n f g fmt)).views = s.views := by rw [granted_frame]
        have hlists : (granted s i (slotProfile n f g fmt)).lists = s.lists := by rw [granted_frame]
        have hports : (granted s i (slotProfile n f g fmt)).ports = s.ports := by rw [granted_frame]
        have hslots : (granted s i (slotProfile n f g fmt)).slots = s.slots := by rw [granted_frame]
        show StepKeeps c s ((granted s i (slotProfile n f g fmt)).startJob tag 0x51 (.restore n i))
        refine of_granted (i := i) (pr := slotProfile n f g fmt) rfl hviews hlists hports (lowestFree_spec hi)
          (geometryOk_of_geometryOf hg) hp (fun _ => ⟨congrArg Entry.state hent, f, g, fmt, ?_, congrArg Entry.profile hent⟩)
        exact (congrArg (fun v : Vector Slot 4 => v[n].reading) hslots).trans hread

theorem querySlot (tag slot : Byte) : StepKeeps c s (reqQuerySlot tag slot s) := by
  unfold reqQuerySlot
  split <;> exact answer s tag _ _ _

/-! ### Settings -/

theorem setGroup (tag address enable acknowledger : Byte) :
    StepKeeps c s (reqSetGroup tag address enable acknowledger s) := by
  unfold reqSetGroup
  split
  · split
    · exact of_same rfl rfl rfl rfl rfl rfl
    · exact answer s tag _ _ _
  · exact answer s tag _ _ _

theorem setAlerts (tag mask : Byte) (watermark : Word) : StepKeeps c s (reqSetAlerts tag mask watermark s) := by
  unfold reqSetAlerts
  split
  · exact answer s tag _ _ _
  · split
    · exact answer s tag _ _ _
    · exact of_same rfl rfl rfl rfl rfl rfl

theorem readAlerts (tag : Byte) : StepKeeps c s (reqReadAlerts tag s) := of_same rfl rfl rfl rfl rfl rfl

end StepKeeps

end Sys2Proof.ProfileTable

/-! PROOFS. Requests as messages, group writes, ABORT, and the ends of long requests: what they keep of the records. -/

namespace Sys2Proof.ProfileTable

open Sys2Proof Sys2Proof.Machine Sys2Proof.Safety

/-- Whatever state the outcome gives, the step to it keeps the records. -/
def OutcomeKeeps (c : Option Instr) (s : State) (o : Host.Outcome State Fault Refusal) : Prop :=
  ∀ t, o = .next t → StepKeeps c s t

section Outcomes

variable {c : Option Instr} {s t : State}

theorem StepKeeps.outcome (h : StepKeeps c s t) : OutcomeKeeps c s (.next t) := by
  intro u hu
  cases hu
  exact h

/-! ### Requests taken (R166, R169, R174) -/

/-- The command brings a WITHDRAW that names each stream of the mask byte. -/
def Withdraws (c : Option Instr) (mask : Byte) : Prop :=
  ∀ m n, MaskByte mask m → inMask m n = true → ∃ r, c = some r ∧ BringsWithdraw r n

theorem withdraws_row (tag mask : Byte) : Withdraws (some (.withdraw tag mask)) mask :=
  fun m _ hm hn => ⟨_, rfl, tag, mask, m, hm, hn, Or.inl rfl⟩

/-- The row carries a request message to this part. -/
def Carries (r : Instr) (message : List Byte) : Prop :=
  r = .windowSelect 0x01 message ∨ r = .busyNack message ∨ r = .unknownRequest message ∨
    r = .requestFormatError message ∨ ∃ a others, r = .groupWrite a others (0x01 :: message)

/-- A message that a row carries brings the WITHDRAW that it spells. -/
theorem withdraws_of_carries {r : Instr} {message : List Byte} {tag mask : Byte} (hr : Carries r message)
    (hj : judgeRequest message = .taken tag (.withdraw mask)) : Withdraws (some r) mask :=
  fun m _ hm hn => ⟨r, rfl, tag, mask, m, hm, hn, Or.inr ⟨message, hj, hr⟩⟩

/-- A LOADING entry takes its check value, and the state and membership that go with it. -/
theorem EntryMoved.of_checked {i : EntryIndex} {st : EntryState} {v : Option Word} {m : StreamMask} (hr : RecordLaw s)
    (hst : s.entries[i].state = .loading)
    (h : t.entries[i] = { s.entries[i] with state := st, checkValue := v, membership := m }) : EntryMoved c s t i := by
  obtain ⟨-, hcheck, -⟩ := entryOk_loading (hr.1 i) hst
  unfold EntryMoved
  rw [h]
  exact Or.inl ⟨rfl, rfl, rfl, Or.inr ⟨hst, hcheck⟩, id, Or.inl⟩

namespace StepKeeps

theorem selectWindow {w : Window} {acks : List Bool} (h : StepKeeps c (s.selectWindow w acks) t) : StepKeeps c s t :=
  congr_left (u := s.selectWindow w acks) rfl rfl rfl rfl rfl rfl h

theorem windowSelected (s : State) (w : Window) (acks : List Bool) : StepKeeps c s (s.selectWindow w acks) :=
  of_same rfl rfl rfl rfl rfl rfl

/-- A request written to the primary address. -/
theorem onRequest {f : State → State} (len : Nat) (hf : ∀ u : State, u.engine = .idle → StepKeeps c u (f u)) :
    StepKeeps c s (s.onRequest len f) := by
  unfold State.onRequest
  split
  · next hidle => exact selectWindow (hf _ hidle)
  · exact windowSelected s _ _
  · exact windowSelected s _ _

theorem onMessage {f : State → State} (message : List Byte)
    (hf : ∀ u : State, u.engine = .idle → StepKeeps c u (f u)) : StepKeeps c s (s.onMessage message f) := by
  unfold State.onMessage
  split
  · next hidle => exact selectWindow (hf _ hidle)
  · exact windowSelected s _ _
  · exact windowSelected s _ _

theorem runRequest (hidle : s.engine = .idle) (tag : Byte) (r : Request) (hw : ∀ m, r = .withdraw m → Withdraws c m) :
    StepKeeps c s (runRequest tag r s) := by
  cases r with
  | create cols rows ch f l => exact create hidle tag cols rows ch f l
  | delete h => exact delete hidle tag h
  | queryProfile h => exact queryProfile tag h
  | queryStore => exact answer s tag _ _ _
  | writeKnots h first count ks => exact writeKnotsRequest tag h first count ks
  | readKnots h first count => exact readKnots tag h first count
  | finish h crc => exact finish tag h crc
  | verify h => exact verify tag h
  | configureView n cols rows ch f => exact configureView hidle tag n cols rows ch f
  | queryView n => exact queryView tag n
  | attach n h k p => exact attach hidle tag n h k p
  | detach n h => exact detach hidle tag n h
  | move n h k p => exact move hidle tag n h k p
  | commit m kind n => exact commit hidle tag m kind n
  | withdraw m => exact withdraw hidle tag m (hw m rfl)
  | discard m => exact discard hidle tag m
  | queryEdits n => exact queryEdits tag n
  | point m => exact point tag m
  | setPoints n src pol pre => exact setPoints tag n src pol pre
  | clearCounts m => exact clearCounts tag m
  | queryPoints => exact answer s tag _ _ _
  | setPort p e l => exact setPort tag p e l
  | queryPort p => exact queryPort tag p
  | programBaseline n h k p => exact programBaseline tag n h k p
  | restoreBaseline n => exact restoreBaseline tag n
  | querySlot n => exact querySlot tag n
  | setGroup a e k => exact setGroup tag a e k
  | setAlerts m w => exact setAlerts tag m w
  | readAlerts => exact readAlerts tag

theorem runGroupRequest (hidle : s.engine = .idle) (tag : Byte) (r : Request)
    (hw : ∀ m, r = .withdraw m → Withdraws c m) : StepKeeps c s (runGroupRequest tag r s) := by
  unfold Machine.runGroupRequest
  split
  · exact commit hidle tag _ _ _
  · next m => exact withdraw hidle tag m (hw m rfl)
  · exact discard hidle tag _
  · exact point tag _
  · exact clearCounts tag _
  · exact answer s tag _ _ _

/-- A judged message answered by a run that keeps the records. -/
theorem answerJudged {run : Byte → Request → State → State} {r : Instr} {message : List Byte}
    (hr : Carries r message) (hrun : ∀ (tag : Byte) (q : Request),
      (∀ m, q = .withdraw m → Withdraws (some r) m) → StepKeeps (some r) s (run tag q s)) :
    StepKeeps (some r) s (s.answerJudged run (judgeRequest message)) := by
  unfold State.answerJudged
  split
  · exact answer s _ _ _ _
  · exact answer s _ _ _ _
  · next tag q hj =>
    refine hrun tag q (fun m hm => ?_)
    rw [hm] at hj
    exact withdraws_of_carries hr hj

theorem writeRequest {r : Instr} {message : List Byte} (hr : Carries r message) :
    StepKeeps (some r) s (s.writeRequest message) := by
  unfold State.writeRequest
  split
  · exact windowSelected s _ _
  · exact onMessage _ (fun u hidle => answerJudged hr (fun tag q hw => runRequest hidle tag q hw))

/-! ### ABORT and the windows (R165, R171) -/

/-- The entry of a RESTORE_BASELINE is LOADING while it runs. -/
theorem restoring_loading {tag : Byte} {n : Stream} {i : EntryIndex} (he : s.engine = .busy tag (.restore n i))
    (hr : RecordLaw s) : s.entries[i].state = .loading := by
  have h := (recordLaw_iff.1 hr).2
  unfold EngineLaw at h
  rw [he] at h
  exact h.1

theorem takeAbort (s : State) : StepKeeps c s s.takeAbort := by
  unfold State.takeAbort
  split
  · exact (refl s).endJob _ _ _ _
  · exact (refl s).endJob _ _ _ _
  · next he => exact of_freed rfl rfl rfl rfl rfl (fun hr => loading_unused hr (restoring_loading he hr))
  · exact refl s
  · exact refl s
  · exact refl s

theorem primaryWrite {r : Instr} {sel : Byte} {rest : List Byte} (hr : sel = 0x01 → Carries r rest) :
    StepKeeps (some r) s (s.primaryWrite (sel :: rest)) := by
  dsimp only [State.primaryWrite]
  split
  · next hsel => exact writeRequest (hr hsel)
  · split
    · exact windowSelected s _ _
    · split
      · split
        · exact windowSelected s _ _
        · exact selectWindow (takeAbort _)
      · split
        · exact windowSelected s _ _
        · exact of_same rfl rfl rfl rfl rfl rfl

/-! ### Group writes (R174) -/

theorem closeGroupWrite {r : Instr} {message : List Byte} (hr : Carries r message) :
    StepKeeps (some r) s (s.closeGroupWrite message) := by
  unfold State.closeGroupWrite
  split
  · next hidle => exact answerJudged hr (fun tag q hw => runGroupRequest hidle tag q hw)
  · exact of_same rfl rfl rfl rfl rfl rfl
  · exact of_same rfl rfl rfl rfl rfl rfl

theorem groupWrite (address : BitVec 7) (others : OtherAcknowledgers) (bytes : List Byte) :
    OutcomeKeeps (some (.groupWrite address others bytes)) s (execGroupWrite address others bytes s) := by
  have hacks : ∀ acks, StepKeeps (some (.groupWrite address others bytes)) s { s with acks := acks } :=
    fun acks => of_same rfl rfl rfl rfl rfl rfl
  unfold execGroupWrite
  split
  · split
    · exact (hacks _).outcome
    · next sel message =>
      split
      · next hcond =>
        simp only [Bool.and_eq_true, decide_eq_true_eq] at hcond
        obtain ⟨⟨⟨-, hsel⟩, -⟩, -⟩ := hcond
        subst hsel
        refine StepKeeps.outcome (congr_left (u := { s with acks := s.groupAcks (0x01 :: message) }) rfl rfl rfl rfl rfl rfl
          (closeGroupWrite ?_))
        exact Or.inr (Or.inr (Or.inr (Or.inr ⟨address, others, rfl⟩)))
      · exact (hacks _).outcome
  · exact (refl s).outcome

/-! ### The ends of long requests (R40, R43, R155 to R159) -/

theorem finishComplete : OutcomeKeeps c s (execFinishComplete s) := by
  unfold execFinishComplete
  split
  · next tag i crc he =>
    refine StepKeeps.outcome ?_
    have hload : RecordLaw s → s.entries[i].state = .loading := by
      intro hr
      have h := (recordLaw_iff.1 hr).2
      unfold EngineLaw at h
      rwa [he] at h
    unfold endFinish
    split
    · exact (refl s).endJob _ _ _ _
    · next v _ =>
      split
      · refine of_entry (i := i) (e := { s.entries[i] with state := .staged, checkValue := some v }) rfl rfl rfl rfl
          (fun hr held h => (h.stage v (hload hr)).congr rfl rfl rfl) (fun _ => engineLaw_idle rfl) ?_
        intro hr
        exact EntryMoved.of_checked hr (hload hr) (getElem_set_same _ _ _)
      · exact (refl s).endJob _ _ _ _
  · exact (refl s).outcome

theorem verifyComplete : OutcomeKeeps c s (execVerifyComplete s) := by
  unfold execVerifyComplete
  split
  · refine StepKeeps.outcome ?_
    unfold endVerify
    split
    · exact (reportDamage s _).endJob _ _ _ _
    · split
      · exact (refl s).endJob _ _ _ _
      · exact (reportDamage s _).endJob _ _ _ _
  · exact (refl s).outcome

/-- The entry that a PROGRAM_BASELINE programs is STAGED or LIVE while it runs. -/
theorem programming_used {tag : Byte} {n : Stream} {i : EntryIndex} {k p : Word} {stage : ProgramStage}
    (he : s.engine = .busy tag (.program n i k p stage)) (hr : RecordLaw s) :
    s.entries[i].state = .staged ∨ s.entries[i].state = .live := by
  have h := (recordLaw_iff.1 hr).2
  unfold EngineLaw at h
  rw [he] at h
  exact h.1

/-- EngineLaw while a slot is written or verified. -/
theorem engineLaw_programming {tag : Byte} {n : Stream} {i : EntryIndex} {k p : Word} {stage : ProgramStage}
    (he : t.engine = .busy tag (.program n i k p stage)) (hstage : stage ≠ .scan)
    (hst : t.entries[i].state = .staged ∨ t.entries[i].state = .live) (hslot : t.slots[n].state = .programming) :
    EngineLaw t := by
  unfold EngineLaw
  rw [he]
  exact ⟨hst, fun h => absurd h hstage, fun _ => hslot⟩

theorem scanEnd : OutcomeKeeps c s (execScanEnd s) := by
  unfold execScanEnd
  split
  · next tag n i key plateau he =>
    have hused : RecordLaw s → s.entries[i].state = .staged ∨ s.entries[i].state = .live := programming_used he
    refine StepKeeps.outcome ?_
    unfold endScan
    split
    · exact (reportDamage s i).endJob _ _ _ _
    · split
      · exact (reportDamage s i).endJob _ _ _ _
      · split
        · exact (refl s).endJob _ _ _ _
        · have hslot : (s.setSlot n { state := .programming, fields := none }).slots[n].state = .programming := by
            rw [setSlot_get_same]
          refine of_quiet rfl rfl rfl rfl (fun hr => ?_)
          exact engineLaw_programming rfl ProgramStage.noConfusion (hused hr) hslot
  · exact (refl s).outcome

/-- A slot written as a job ends. -/
theorem endJob_setSlot (h : StepKeeps c s t) (n : Stream) (x : Slot) (tag code : Byte) (r : Result) (d : List Byte) :
    StepKeeps c s ((t.setSlot n x).endJob tag code r d) :=
  h.congr_right (t := t) (u := (t.setSlot n x).endJob tag code r d) rfl rfl rfl rfl rfl (fun _ hi => hi)
    (fun _ => engineLaw_idle rfl)

theorem programWriteEnd (recorded : Bool) : OutcomeKeeps c s (execProgramWriteEnd recorded s) := by
  unfold execProgramWriteEnd
  split
  · next tag n i key plateau bases he =>
    have hused : RecordLaw s → s.entries[i].state = .staged ∨ s.entries[i].state = .live := programming_used he
    refine StepKeeps.outcome ?_
    unfold endWrite
    split
    · exact (reportDamage s i).endJob_setSlot n (Slot.spoil recorded) tag _ _ _
    · have hslot : ∀ f, (s.setSlot n { state := .programming, fields := f }).slots[n].state = .programming := by
        intro f
        rw [setSlot_get_same]
      refine of_quiet rfl rfl rfl rfl (fun hr => ?_)
      exact engineLaw_programming rfl ProgramStage.noConfusion (hused hr) (hslot _)
  · exact (refl s).outcome

theorem programVerifyEnd (writesTook recorded : Bool) :
    OutcomeKeeps c s (execProgramVerifyEnd writesTook recorded s) := by
  unfold execProgramVerifyEnd
  split
  · refine StepKeeps.outcome ?_
    unfold endProgram
    split
    · exact of_quiet rfl rfl rfl rfl (fun _ => engineLaw_idle rfl)
    · exact of_quiet rfl rfl rfl rfl (fun _ => engineLaw_idle rfl)
  · exact (refl s).outcome

/-- The knots of a slot loaded. -/
theorem loadKnots {i : EntryIndex} {f : SlotFields} {g : Geometry} {us : List LoadUpset}
    (h : StepKeeps c (s.loadKnots i f g us) t) : StepKeeps c s t := by
  have hframe := loadKnots_frame s i f g us
  exact congr_left (by rw [hframe]) (by rw [hframe]) (by rw [hframe]) (by rw [hframe]) (by rw [hframe]) (by rw [hframe]) h

theorem restoreComplete (upsets : List LoadUpset) : OutcomeKeeps c s (execRestoreComplete upsets s) := by
  unfold execRestoreComplete
  split
  · next tag n i he =>
    refine StepKeeps.outcome ?_
    unfold endRestore
    split
    · next f g fmt _ =>
      apply loadKnots (i := i) (f := f) (g := g) (us := upsets)
      have he' : (s.loadKnots i f g upsets).engine = .busy tag (.restore n i) := by
        rw [loadKnots_frame]
        exact he
      generalize s.loadKnots i f g upsets = u at he'
      have hload : RecordLaw u → u.entries[i].state = .loading := restoring_loading he'
      have hfreed : ∀ r d, StepKeeps c u ((u.freeEntry i).endJob tag 0x51 r d) :=
        fun r d => of_freed rfl rfl rfl rfl rfl (fun hr => loading_unused hr (hload hr))
      dsimp only
      split
      · exact hfreed _ _
      · split
        · refine of_entry (i := i) (e := { u.entries[i] with state := .staged, checkValue := some f.crc }) rfl rfl rfl rfl
            (fun hr held h => (h.stage f.crc (hload hr)).congr rfl rfl rfl) (fun _ => engineLaw_idle rfl) ?_
          intro hr
          exact EntryMoved.of_checked hr (hload hr) (getElem_set_same _ _ _)
        · exact hfreed _ _
    · exact refl s
  · exact (refl s).outcome

end StepKeeps

end Outcomes

end Sys2Proof.ProfileTable

/-! PROOFS. The events of the link and the Surface Engine, the start-up load and the device reset: what they keep of the
records. -/

namespace Sys2Proof.ProfileTable

open Sys2Proof Sys2Proof.Machine Sys2Proof.Safety

section Events

variable {c : Option Instr} {s t u : State}

namespace StepKeeps

/-! ### Messages, boundary edges, time (R93, R114, R129) -/

theorem receive (s : State) (p : Stream) (bytes : List Byte) : StepKeeps c s (s.receive p bytes) :=
  of_serves (Serves.receive s p bytes) (fun h _ => h.receive bytes)

theorem tick (s : State) : StepKeeps c s s.tick := of_serves (Serves.tick s) (fun h _ => h.tick)

theorem stallExpiry (p : Stream) : OutcomeKeeps c s (execStallExpiry p s) := by
  unfold execStallExpiry
  split
  · exact (of_serves (Serves.expire s p) (fun h _ => h.expire)).outcome
  · exact (refl s).outcome

theorem boundaryEdge (line : Stream) (level : LineLevel) : OutcomeKeeps c s (execBoundaryEdge line level s) := by
  unfold execBoundaryEdge
  split
  · exact (refl s).outcome
  · exact StepKeeps.outcome (congr_left (s := s) (u := { s with lines := s.lines.set line level }) rfl rfl rfl rfl rfl rfl
      (points pointed_countEdge (nodup_allStreams.filter _) _))

theorem parityFault (page : Fin 512) (offset : Fin 64) (upset : WordUpset) :
    OutcomeKeeps c s (execParityFault page offset upset s) :=
  StepKeeps.outcome (of_same rfl rfl rfl rfl rfl rfl)

/-! ### Rows granted and handed over (R137, R139) -/

theorem grant : OutcomeKeeps c s (execGrant s) := by
  unfold execGrant
  split
  · next p _ _ =>
    split
    · exact (of_serves ((Serves.modPort s p Port.grantHead).trans (Serves.withDatapath _ _ p))
        (fun h _ => (h.modPort _ (grantHead_selections _)).congr rfl rfl rfl rfl)).outcome
    · exact (refl s).outcome
  · exact (refl s).outcome

theorem handover : OutcomeKeeps c s (execHandover s) := by
  unfold execHandover
  split
  · exact (refl s).outcome
  · next d _ =>
    split
    · exact (refl s).outcome
    · next h rest hq =>
      split
      · next ks _ =>
        exact (of_serves (Serves.handOver s d.port h d.row ks)
          (fun hs halone => hs.handOver hq (halone _) d.row ks)).outcome
      · exact (refl s).outcome

end StepKeeps

/-! ### A fault reported (R142, R143) -/

theorem reportDamage_ports (s : State) (i : EntryIndex) : (s.reportDamage i).ports = s.ports := by
  rw [reportDamage_eq]
  unfold damageReported
  split <;> rfl

/-- An entry moved, then served. -/
theorem EntryMoved.serveKept {i : EntryIndex} (h : EntryMoved c s u i) (hs : ServeKept u.entries[i] t.entries[i])
    (halerts : t.alerts = u.alerts) : EntryMoved c s t i := by
  unfold EntryMoved at h ⊢
  rw [halerts]
  rcases hs with ⟨r, he, hr⟩ | ⟨hdrain, he⟩
  · rcases h with h | h | h
    · rw [he]
      exact Or.inl h
    · rw [h] at he hr
      have h0 : r = 0 := Nat.le_zero.1 (hr EntryState.noConfusion)
      rw [he, h0]
      exact Or.inr (Or.inl rfl)
    · rw [he]
      exact Or.inr (Or.inr h)
  · refine Or.inr (Or.inl ?_)
    rcases h with ⟨hrev, -⟩ | h | ⟨-, -, hst, -⟩
    · rw [he, hrev]
    · rw [h] at hdrain
      cases hdrain
    · rw [hst] at hdrain
      cases hdrain

namespace StepKeeps

/-- A step that keeps the ports, and lookups served after it. -/
theorem serves_right (h : StepKeeps c s u) (hp : u.ports = s.ports) (hl : RecordLaw s → AnchorsLive u)
    (hs : Serves u t) (hsound : Sound u → (∀ p : Stream, ResettingAlone u.ports[p]) → Sound t) : StepKeeps c s t where
  law hsnd hengine halone := by
    have hu := h.law hsnd hengine halone
    have hsu : Sound u := ⟨(recordLaw_iff.1 hu).1, by rw [hp]; exact hsnd.queues⟩
    exact recordLaw_of_serves hu hs (hsound hsu (by rw [hp]; exact halone))
  lists n T hT := by
    have hmoved := h.lists n T hT
    unfold ListMoved at hmoved ⊢
    rwa [hs.lists, hs.points]
  views hr n := by
    have hmoved := h.views hr n
    unfold ViewMoved at hmoved ⊢
    rwa [hs.lists, hs.points, hs.views]
  entries hr hc i := (h.entries hr hc i).serveKept (hs.kept (hl hr) i) hs.alerts

theorem reportFault {p : Stream} {h : Lookup} {rest : List Lookup} (hq : s.ports[p].queue = h :: rest)
    (i : EntryIndex) : StepKeeps c s (s.reportFault p h i) := by
  have hports := reportDamage_ports s i
  have hdamage : StepKeeps c s { s.reportDamage i with datapath := none } :=
    (reportDamage s i).congr_right (t := s.reportDamage i) rfl rfl rfl rfl rfl (fun _ h => h)
      (engineLaw_congr rfl rfl rfl rfl rfl)
  have hlive : RecordLaw s → AnchorsLive { s.reportDamage i with datapath := none } :=
    fun hr _ _ ha => ((recordLaw_iff.1 hr).1.reportDamage i).live ha
  have hqueue : (s.reportDamage i).ports[p].queue = h :: rest := by rw [hports, hq]
  unfold State.reportFault
  dsimp only
  split
  · next hr =>
    refine serves_right hdamage hports hlive (Serves.finishReset _ p) (fun hs halone => hs.finishReset ?_)
    exact length_of_resettingAlone (halone p) hqueue hr
  · exact serves_right hdamage hports hlive (Serves.endHead _ p _) (fun hs _ => hs.endHead _)

theorem faultReport : OutcomeKeeps c s (execFaultReport s) := by
  unfold execFaultReport
  split
  · exact (refl s).outcome
  · next d _ =>
    split
    · exact (refl s).outcome
    · next h rest hq =>
      split
      · exact (refl s).outcome
      · exact (reportFault hq _).outcome

end StepKeeps

/-! ### A load begun (R10, R161, R162) -/

/-- The entry that a load works on: LOADING, with the profile that its slot gives. -/
def LoadingFrom (s : State) (n : Stream) (i : EntryIndex) : Prop :=
  s.entries[i].state = .loading ∧
    ∃ f g fmt, s.slots[n].reading = .programmed f g fmt ∧ s.entries[i].profile = some (slotProfile n f g fmt)

/-- The beginning of a load: no entry, or one granted for the profile that the slot gives. -/
theorem beginLoad_cases (s : State) (n : Stream) :
    s.beginLoad n = { s with engine := .starting n none } ∨
      ∃ i f g fmt, s.slots[n].reading = .programmed f g fmt ∧ s.entries[i].state = .free ∧ GeometryOk g ∧
        g.pageCount ≤ s.freePages.length ∧
        s.beginLoad n = { granted s i (slotProfile n f g fmt) with engine := .starting n (some i) } := by
  unfold State.beginLoad
  split
  · next f g fmt hread =>
    obtain ⟨-, -, hg, -⟩ := reading_programmed hread
    rcases allocate_cases s (slotProfile n f g fmt) with ⟨r, ha⟩ | ⟨i, hi, hp, ha⟩
    · rw [ha]
      exact Or.inl rfl
    · rw [ha]
      exact Or.inr ⟨i, f, g, fmt, hread, lowestFree_spec hi, geometryOk_of_geometryOf hg, hp, rfl⟩
  · exact Or.inl rfl

theorem HeldLaw.beginLoad {held : List Selection} (h : HeldLaw s held) (n : Stream) : HeldLaw (s.beginLoad n) held := by
  rcases beginLoad_cases s n with he | ⟨i, f, g, fmt, -, hfree, hgrid, hp, he⟩
  · rw [he]
    exact h.congr rfl rfl rfl
  · rw [he]
    exact (h.granted (pr := slotProfile n f g fmt) hfree hgrid hp).congr rfl rfl rfl

/-- EngineLaw where the load of slot n begins: no list holds anything, and no view from n on is CONFIGURED. -/
theorem engineLaw_beginLoad {n : Stream} (hlists : ∀ m : Stream, s.lists[m] = EditList.reset)
    (hviews : ∀ m : Stream, n ≤ m → s.views[m].config = none) : EngineLaw (s.beginLoad n) := by
  have hframe := beginLoad_frame s n
  have hlists' : ∀ m : Stream, (s.beginLoad n).lists[m] = EditList.reset := by
    rw [hframe]
    exact hlists
  have hviews' : ∀ m : Stream, n ≤ m → (s.beginLoad n).views[m].config = none := by
    rw [hframe]
    exact hviews
  rcases beginLoad_cases s n with he | ⟨i, f, g, fmt, hread, -, -, -, he⟩
  · rw [he] at hlists' hviews' ⊢
    exact ⟨hlists', hviews', fun i hi => nomatch hi⟩
  · have hent := granted_entry_same s i (slotProfile n f g fmt)
    have hslots : (granted s i (slotProfile n f g fmt)).slots = s.slots := by rw [granted_frame]
    rw [he] at hlists' hviews' ⊢
    refine ⟨hlists', hviews', ?_⟩
    rintro j ⟨rfl⟩
    refine ⟨congrArg Entry.state hent, f, g, fmt, ?_, congrArg Entry.profile hent⟩
    exact (congrArg (fun v : Vector Slot 4 => v[n].reading) hslots).trans hread

/-- What the beginning of a load leaves of an entry. -/
theorem beginLoad_entry (s : State) (n : Stream) (i : EntryIndex) :
    (s.beginLoad n).entries[i] = s.entries[i] ∨
      (s.entries[i].state = .free ∧ ∃ pr pages, (s.beginLoad n).entries[i] = s.entries[i].allocated pr pages) := by
  rcases beginLoad_cases s n with he | ⟨j, f, g, fmt, -, hfree, -, -, he⟩
  · exact Or.inl (by rw [he])
  · by_cases hi : i = j
    · subst hi
      refine Or.inr ⟨hfree, slotProfile n f g fmt, s.freePages.take g.pageCount, ?_⟩
      rw [he]
      exact granted_entry_same _ _ _
    · refine Or.inl ?_
      rw [he]
      exact granted_entry_other _ _ _ _ hi

/-! ### The device reset (R161) -/

theorem StepKeeps.deviceReset (moment : ResetMoment) (straps : BitVec 2) :
    OutcomeKeeps (some (.deviceReset moment straps)) s (execDeviceReset moment straps s) := by
  have hreset := recordsReset_blocksReset s moment straps
  have hframe := beginLoad_frame (blocksReset s moment straps) 0
  refine StepKeeps.outcome (t := (blocksReset s moment straps).beginLoad 0) ⟨?_, ?_, ?_, ?_⟩
  · intro _ _ _
    refine recordLaw_iff.2 ⟨?_, engineLaw_beginLoad hreset.lists (fun m _ => by rw [hreset.views m]; rfl)⟩
    rw [selectionsHeld_congr (s := blocksReset s moment straps)]
    · exact (recordLaw_iff.1 (recordLaw_of_recordsReset hreset)).1.beginLoad 0
    · intro p
      unfold selectionsAt
      rw [hframe]
  · intro n T _
    refine Or.inr (Or.inr (Or.inr ⟨?_, moment, straps, rfl⟩))
    rw [hframe]
    exact hreset.lists n
  · intro _ n
    have hview : ((blocksReset s moment straps).beginLoad 0).views[n] = View.reset := by
      rw [hframe]
      exact hreset.views n
    refine Or.inr (Or.inr (Or.inr ⟨?_, ?_, moment, straps, rfl⟩))
    · rw [hview]
      rfl
    · rw [hview]
      rfl
  · intro _ hc
    exact absurd rfl (hc moment straps)

/-! ### A slot's load completed (R162) -/

/-- What the completion of slot n's load leaves of an entry: nothing changed, or a LOADING entry freed, or one that took
its check value. -/
def LoadMoved (e e' : Entry) : Prop :=
  e' = e ∨ (e.state = .loading ∧ (e' = Entry.freed e.revision ∨
    ∃ st v m, e' = { e with state := st, checkValue := v, membership := m }))

/-- What the completion of slot n's load leaves of the view that it configures, UNCONFIGURED before: its anchors and its
generation, or the start-up attach. -/
def ViewLoaded (v v' : View) : Prop :=
  (v'.generation = v.generation ∧ (v.anchors = [] → v'.anchors = [])) ∨
    (v'.generation = v.generation + 1 ∧ ∃ a, v'.anchors = [a])

/-- The load of slot n completed: from s to u. -/
structure LoadCompletes (n : Stream) (s u : State) : Prop where
  frame : u = { s with
    entries := u.entries, memory := u.memory, freePages := u.freePages, views := u.views, alerts := u.alerts }
  held : ∀ held, HeldLaw s held → HeldLaw u held
  others : ∀ m : Stream, m ≠ n → u.views[m] = s.views[m]
  view : ViewLoaded s.views[n] u.views[n]
  entries : ∀ i : EntryIndex, LoadMoved s.entries[i] u.entries[i]

theorem loadMoved_set {i : EntryIndex} {e : Entry} (h : LoadMoved s.entries[i] e)
    (ht : t.entries = s.entries.set i e) (j : EntryIndex) : LoadMoved s.entries[j] t.entries[j] := by
  rw [ht]
  by_cases hj : j = i
  · subst hj
    rw [getElem_set_same]
    exact h
  · rw [getElem_set_other _ _ hj]
    exact Or.inl rfl

/-- A view left empty (R162). -/
theorem HeldLaw.leaveEmpty {held : List Selection} (h : HeldLaw s held) {n : Stream} {g : Geometry} (fmt : Format)
    (hgrid : GeometryOk g) (hcfg : s.views[n].config = none) : HeldLaw (s.leaveEmpty n g fmt) held := by
  obtain ⟨hanchors, hlist⟩ := (layoutLawOf_none hcfg).1 (h.layouts n)
  exact h.configure (n := n) (c := { geometry := g, format := fmt }) rfl rfl rfl hgrid hanchors hlist

theorem leaveEmpty_view (s : State) (n : Stream) (g : Geometry) (fmt : Format) :
    ViewLoaded s.views[n] (s.leaveEmpty n g fmt).views[n] := by
  show ViewLoaded s.views[n] (s.views.set n _)[n]
  rw [getElem_set_same]
  exact Or.inl ⟨rfl, fun _ => rfl⟩

theorem leaveEmpty_view_other (s : State) (n : Stream) (g : Geometry) (fmt : Format) {m : Stream} (hm : m ≠ n) :
    (s.leaveEmpty n g fmt).views[m] = s.views[m] := getElem_set_other _ _ hm

theorem attachBaseline_view (s : State) (n : Stream) (i : EntryIndex) (f : SlotFields) (g : Geometry) (fmt : Format) :
    ViewLoaded s.views[n] (s.attachBaseline n i f g fmt).views[n] := by
  unfold State.attachBaseline
  dsimp only
  rw [setView_get_same]
  exact Or.inr ⟨rfl, _, rfl⟩

theorem attachBaseline_view_other (s : State) (n : Stream) (i : EntryIndex) (f : SlotFields) (g : Geometry)
    (fmt : Format) {m : Stream} (hm : m ≠ n) : (s.attachBaseline n i f g fmt).views[m] = s.views[m] :=
  getElem_set_other _ _ hm

/-- The load in progress completes as R162 gives. -/
theorem loadCompletes {n : Stream} {entry : Option EntryIndex} (hcfg : s.views[n].config = none)
    (hentry : ∀ i, entry = some i → LoadingFrom s n i) (upsets : List LoadUpset) :
    LoadCompletes n s (s.completeLoad n entry upsets) := by
  cases hread : s.slots[n].reading with
  | blank =>
    rw [completeLoad_blank hread]
    exact ⟨rfl, fun _ h => h, fun _ _ => rfl, Or.inl ⟨rfl, id⟩, fun _ => Or.inl rfl⟩
  | spoiled why =>
    rw [completeLoad_spoiled hread]
    exact ⟨rfl, fun _ h => h.congr rfl rfl rfl, fun _ _ => rfl, Or.inl ⟨rfl, id⟩, fun _ => Or.inl rfl⟩
  | programmed f g fmt =>
    obtain ⟨-, -, hg, -⟩ := reading_programmed hread
    have hgrid := geometryOk_of_geometryOf hg
    cases entry with
    | none =>
      have heq : s.completeLoad n none upsets = s.leaveEmpty n g fmt := by
        unfold State.completeLoad
        rw [hread]
      rw [heq]
      exact ⟨rfl, fun _ h => h.leaveEmpty fmt hgrid hcfg, fun m hm => leaveEmpty_view_other s n g fmt hm,
        leaveEmpty_view s n g fmt, fun _ => Or.inl rfl⟩
    | some i =>
      obtain ⟨hst, f', g', fmt', hread', hprofile⟩ := hentry i rfl
      rw [hread] at hread'
      cases hread'
      have hframe := loadKnots_frame s i f g upsets
      have hloaded : ∀ held, HeldLaw s held → HeldLaw (s.loadKnots i f g upsets) held := by
        intro held h
        rw [hframe]
        exact h.congr rfl rfl rfl
      have hviews : (s.loadKnots i f g upsets).views = s.views := by rw [hframe]
      have hentries : (s.loadKnots i f g upsets).entries = s.entries := by rw [hframe]
      by_cases hc : (s.loadKnots i f g upsets).checkEntry i = .crc f.crc
      · rw [completeLoad_good hread hc]
        refine ⟨?_, ?_, ?_, ?_, ?_⟩
        · rw [hframe]
          rfl
        · intro held h
          refine (hloaded held h).attachBaseline ?_ ?_ hgrid ?_
          · rw [hentries]
            exact hst
          · rw [hentries]
            exact hprofile
          · rw [hviews]
            exact hcfg
        · intro m hm
          rw [attachBaseline_view_other _ _ _ _ _ _ hm, hviews]
        · rw [← hviews]
          exact attachBaseline_view _ _ _ _ _ _
        · refine loadMoved_set (i := i) (Or.inr ⟨hst, Or.inr ⟨.live, some f.crc, streamBit n, rfl⟩⟩) ?_
          rw [attachBaseline_loadKnots]
      · rw [completeLoad_bad hread hc]
        refine ⟨?_, ?_, ?_, ?_, ?_⟩
        · rw [hframe]
          rfl
        · intro held h
          obtain ⟨-, -, -, hm0, hp0, hl0⟩ := entryOk_loading (h.entryOk i) hst
          refine ((hloaded held h).freeEntry (i := i) ?_ ?_ ?_).leaveEmpty fmt hgrid ?_
          · rw [hentries]
            exact hm0
          · rw [hentries]
            exact hp0
          · rw [hentries]
            exact hl0
          · show (s.loadKnots i f g upsets).views[n].config = none
            rw [hviews]
            exact hcfg
        · intro m hm
          rw [leaveEmpty_view_other _ _ _ _ hm]
          show (s.loadKnots i f g upsets).views[m] = _
          rw [hviews]
        · rw [← hviews]
          exact leaveEmpty_view ((s.loadKnots i f g upsets).freeEntry i) n g fmt
        · refine loadMoved_set (i := i) (Or.inr ⟨hst, Or.inl rfl⟩) ?_
          rw [leaveEmpty_loadKnots]
          unfold afterFreeing
          dsimp only
          rw [hentries]

end Events

end Sys2Proof.ProfileTable

/-! PROOFS. Every step keeps the laws of the records, and changes records only at their own events. -/

namespace Sys2Proof.ProfileTable

open Sys2Proof Sys2Proof.Machine Sys2Proof.Safety

section SlotLoad

variable {s u : State} {n : Stream}

/-! ### SLOT_LOAD (R162, R163) -/

theorem completeLoad_lists (s : State) (n : Stream) (entry : Option EntryIndex) (upsets : List LoadUpset) :
    (s.completeLoad n entry upsets).lists = s.lists := by
  unfold State.completeLoad
  split
  · rfl
  · rfl
  · next f g fmt _ =>
    split
    · rfl
    · next i =>
      have hlists : (s.loadKnots i f g upsets).lists = s.lists := by rw [loadKnots_frame]
      dsimp only
      split
      · split <;> exact hlists
      · exact hlists

theorem started_lists (u : State) : u.started.lists = u.lists := by rw [started_frame]

theorem beginLoad_lists (u : State) (m : Stream) : (u.beginLoad m).lists = u.lists := by rw [beginLoad_frame]

/-- What EngineLaw says while slot n is being loaded. -/
theorem engineLaw_starting {entry : Option EntryIndex} (he : s.engine = .starting n entry) (h : EngineLaw s) :
    (∀ m : Stream, s.lists[m] = EditList.reset) ∧ (∀ m : Stream, n ≤ m → s.views[m].config = none) ∧
      ∀ i, entry = some i → LoadingFrom s n i := by
  unfold EngineLaw at h
  rwa [he] at h

/-- A load's completion, under the laws. -/
theorem loadCompletes_of_recordLaw {entry : Option EntryIndex} (he : s.engine = .starting n entry) (hr : RecordLaw s)
    (upsets : List LoadUpset) : LoadCompletes n s (s.completeLoad n entry upsets) := by
  obtain ⟨-, hviews, hentry⟩ := engineLaw_starting he (recordLaw_iff.1 hr).2
  exact loadCompletes (hviews n (le_refl n)) hentry upsets

theorem LoadCompletes.selectionsHeld (h : LoadCompletes n s u) : selectionsHeld u = selectionsHeld s :=
  selectionsHeld_congr (fun p => by unfold selectionsAt; rw [h.frame])

/-- Where the views that a slot's load leaves go on unchanged. -/
theorem LoadCompletes.viewMoved {t : State} {entry : Option EntryIndex} {upsets : List LoadUpset}
    (h : LoadCompletes n s u) (he : s.engine = .starting n entry) (hr : RecordLaw s) (hv : t.views = u.views)
    (m : Stream) : ViewMoved (some (.slotLoad n upsets)) s t m := by
  by_cases hm : m = n
  · subst hm
    obtain ⟨-, hviews, -⟩ := engineLaw_starting he (recordLaw_iff.1 hr).2
    have hlayout := (recordLaw_iff.1 hr).1.layouts m
    obtain ⟨hanchors, -⟩ := (layoutLawOf_none (hviews m (le_refl m))).1 hlayout
    unfold ViewMoved
    rw [hv]
    rcases h.view with ⟨hgen, hnil⟩ | ⟨hgen, hone⟩
    · exact Or.inl ⟨hgen, by rw [hnil hanchors, hanchors]⟩
    · refine Or.inr (Or.inr (Or.inl ⟨hgen, hone, ?_, upsets, rfl⟩))
      unfold isStarting
      rw [he]
  · exact ViewMoved.of_eq (by rw [hv, h.others m hm])

theorem LoadMoved.revision {e e' : Entry} (h : LoadMoved e e') : e'.revision = e.revision := by
  rcases h with rfl | ⟨-, rfl | ⟨st, v, m, rfl⟩⟩ <;> rfl

theorem LoadCompletes.entryMoved {c : Option Instr} {t : State} (h : LoadCompletes n s u) (hr : RecordLaw s)
    {i : EntryIndex} (hi : t.entries[i] = u.entries[i]) : EntryMoved c s t i := by
  rcases h.entries i with heq | ⟨hst, heq | ⟨st, v, m, heq⟩⟩
  · exact EntryMoved.of_eq (hi.trans heq)
  · exact EntryMoved.of_freed (hi.trans heq)
  · exact EntryMoved.of_checked hr hst (hi.trans heq)

/-- The last slot's load completed, and the start-up ended. -/
theorem StepKeeps.slotLoadLast {entry : Option EntryIndex} (he : s.engine = .starting n entry)
    (upsets : List LoadUpset) :
    StepKeeps (some (.slotLoad n upsets)) s (s.completeLoad n entry upsets).started := by
  have hloads := fun hr => loadCompletes_of_recordLaw (s := s) he hr upsets
  have hframe := started_frame (s.completeLoad n entry upsets)
  refine ⟨?_, ?_, ?_, ?_⟩
  · intro hs hengine _
    have hload := hloads (recordLaw_of_sound hs hengine)
    refine recordLaw_of_sound ?_ (engineLaw_idle (by rw [hframe]))
    have hsound : Sound (s.completeLoad n entry upsets) :=
      ⟨by rw [hload.selectionsHeld]; exact hload.held _ hs.held, by rw [hload.frame]; exact hs.queues⟩
    unfold State.started
    refine Sound.foldl (fun _ q hq => hq.modPort (p := q) _ rfl) allStreams ?_
    exact hsound.congr rfl rfl rfl rfl
  · intro m T _
    exact ListMoved.of_eq (by rw [started_lists, completeLoad_lists])
  · intro hr m
    exact (hloads hr).viewMoved he hr (by rw [hframe]) m
  · intro hr _ i
    exact (hloads hr).entryMoved hr (by rw [hframe])

theorem next_slot {n m : Stream} (hn : n ≠ 3) (hm : n + 1 ≤ m) : m ≠ n ∧ n ≤ m := by
  revert n m
  decide

/-- A slot's load completed, and the next slot's begun: an entry may be freed and allocated again. -/
theorem StepKeeps.slotLoadNext {entry : Option EntryIndex} (he : s.engine = .starting n entry) (hn : n ≠ 3)
    (upsets : List LoadUpset) :
    StepKeeps (some (.slotLoad n upsets)) s ((s.completeLoad n entry upsets).beginLoad (n + 1)) := by
  have hloads := fun hr => loadCompletes_of_recordLaw (s := s) he hr upsets
  have hlists : (s.completeLoad n entry upsets).lists = s.lists := completeLoad_lists s n entry upsets
  have hframe := beginLoad_frame (s.completeLoad n entry upsets) (n + 1)
  have hmoves := beginLoad_entry (s.completeLoad n entry upsets) (n + 1)
  refine ⟨?_, ?_, ?_, ?_⟩
  · intro hs hengine _
    have hload := hloads (recordLaw_of_sound hs hengine)
    obtain ⟨hreset, hviews, -⟩ := engineLaw_starting he hengine
    refine recordLaw_iff.2 ⟨?_, engineLaw_beginLoad (by rw [hlists]; exact hreset) ?_⟩
    · rw [selectionsHeld_congr (s := s.completeLoad n entry upsets), hload.selectionsHeld]
      · exact (hload.held _ hs.held).beginLoad (n + 1)
      · intro p
        unfold selectionsAt
        rw [hframe]
    · intro m hm
      obtain ⟨hne, hle⟩ := next_slot hn hm
      rw [hload.others m hne]
      exact hviews m hle
  · intro m T _
    exact ListMoved.of_eq (by rw [beginLoad_lists, hlists])
  · intro hr m
    exact (hloads hr).viewMoved he hr (by rw [hframe]) m
  · intro hr _ i
    rcases hmoves i with hi | ⟨-, pr, pages, hi⟩
    · exact (hloads hr).entryMoved hr hi
    · refine Or.inr (Or.inr ⟨Or.inr ⟨n, upsets, rfl⟩, ?_⟩)
      rw [hi]
      refine ⟨?_, rfl, rfl, rfl⟩
      show _ + 1 = _
      rw [((hloads hr).entries i).revision]

theorem StepKeeps.slotLoad (slot : Stream) (upsets : List LoadUpset) :
    OutcomeKeeps (some (.slotLoad slot upsets)) s (execSlotLoad slot upsets s) := by
  unfold execSlotLoad
  split
  · next n entry he =>
    split
    · next hslot =>
      subst hslot
      split
      · exact (StepKeeps.slotLoadLast he upsets).outcome
      · next hn => exact (StepKeeps.slotLoadNext he hn upsets).outcome
    · exact (StepKeeps.refl s).outcome
  · exact (StepKeeps.refl s).outcome

end SlotLoad

/-! ### Every command -/

namespace StepKeeps

/-- What each command keeps of the records, row by row. -/
theorem exec (r : Instr) (s : State) : OutcomeKeeps (some r) s (exec r s) := by
  cases r with
  | create tag cols rows ch f l => exact (onRequest 9 (fun u h => create h tag cols rows ch f l)).outcome
  | delete tag h => exact (onRequest 5 (fun u hidle => delete hidle tag h)).outcome
  | queryProfile tag h => exact (onRequest 5 (fun u _ => queryProfile tag h)).outcome
  | queryStore tag => exact (onRequest 3 (fun u _ => answer u tag _ _ _)).outcome
  | writeKnots tag h first count ks => exact (onMessage _ (fun u _ => writeKnotsRequest tag h first count ks)).outcome
  | readKnots tag h first count => exact (onRequest 8 (fun u _ => readKnots tag h first count)).outcome
  | finish tag h crc => exact (onRequest 7 (fun u _ => finish tag h crc)).outcome
  | finishComplete => exact finishComplete
  | verify tag h => exact (onRequest 5 (fun u _ => verify tag h)).outcome
  | verifyComplete => exact verifyComplete
  | configureView tag n cols rows ch f =>
    exact (onRequest 8 (fun u h => configureView h tag n cols rows ch f)).outcome
  | queryView tag n => exact (onRequest 4 (fun u _ => queryView tag n)).outcome
  | attach tag n h k p => exact (onRequest 10 (fun u hidle => attach hidle tag n h k p)).outcome
  | detach tag n h => exact (onRequest 6 (fun u hidle => detach hidle tag n h)).outcome
  | move tag n h k p => exact (onRequest 10 (fun u hidle => move hidle tag n h k p)).outcome
  | commit tag m kind n => exact (onRequest 7 (fun u h => commit h tag m kind n)).outcome
  | withdraw tag m => exact (onRequest 4 (fun u h => withdraw h tag m (withdraws_row tag m))).outcome
  | discard tag m => exact (onRequest 4 (fun u h => discard h tag m)).outcome
  | queryEdits tag n => exact (onRequest 4 (fun u _ => queryEdits tag n)).outcome
  | point tag m => exact (onRequest 4 (fun u _ => point tag m)).outcome
  | setPoints tag n src pol pre => exact (onRequest 7 (fun u _ => setPoints tag n src pol pre)).outcome
  | clearCounts tag m => exact (onRequest 4 (fun u _ => clearCounts tag m)).outcome
  | queryPoints tag => exact (onRequest 3 (fun u _ => answer u tag _ _ _)).outcome
  | setPort tag p e l => exact (onRequest 6 (fun u _ => setPort tag p e l)).outcome
  | queryPort tag p => exact (onRequest 4 (fun u _ => queryPort tag p)).outcome
  | programBaseline tag n h k p => exact (onRequest 10 (fun u _ => programBaseline tag n h k p)).outcome
  | scanEnd => exact scanEnd
  | programWriteEnd recorded => exact programWriteEnd recorded
  | programVerifyEnd writesTook recorded => exact programVerifyEnd writesTook recorded
  | restoreBaseline tag n => exact (onRequest 4 (fun u _ => restoreBaseline tag n)).outcome
  | restoreComplete upsets => exact restoreComplete upsets
  | querySlot tag n => exact (onRequest 4 (fun u _ => querySlot tag n)).outcome
  | setGroup tag a e k => exact (onRequest 6 (fun u _ => setGroup tag a e k)).outcome
  | setAlerts tag m w => exact (onRequest 6 (fun u _ => setAlerts tag m w)).outcome
  | readAlerts tag => exact (onRequest 3 (fun u _ => readAlerts tag)).outcome
  | unknownRequest message => exact (writeRequest (Or.inr (Or.inr (Or.inl rfl)))).outcome
  | requestFormatError message => exact (writeRequest (Or.inr (Or.inr (Or.inr (Or.inl rfl))))).outcome
  | busyNack message => exact (writeRequest (Or.inr (Or.inl rfl))).outcome
  | windowSelect selector extra => exact (primaryWrite (fun hsel => Or.inl (by rw [hsel]))).outcome
  | abort value extra => exact (primaryWrite (fun hsel => absurd hsel (by decide))).outcome
  | groupWrite address others bytes => exact groupWrite address others bytes
  | boundaryEdge line level => exact boundaryEdge line level
  | lookup p tag key first count => exact (receive s p _).outcome
  | credit p n => exact (receive s p _).outcome
  | cancel p tag => exact (receive s p _).outcome
  | linkReset p => exact (receive s p _).outcome
  | badMessage p bytes => exact (receive s p _).outcome
  | linkMessageHeld p m => exact (receive s p _).outcome
  | grant => exact grant
  | handover => exact handover
  | faultReport => exact faultReport
  | stallExpiry p => exact stallExpiry p
  | deviceReset moment straps => exact deviceReset moment straps
  | slotLoad slot upsets => exact slotLoad slot upsets
  | parityFault page offset upset => exact parityFault page offset upset
  | idleByte p => exact (receive s p _).outcome

/-- What one step keeps of the records, whichever command it takes. -/
theorem of_step {s t : State} (h : step s = .next t) : StepKeeps s.pending.head? s t := by
  unfold step at h
  cases hp : s.pending with
  | nil =>
    rw [hp] at h
    cases h
    exact tick s
  | cons r rest =>
    rw [hp] at h
    exact congr_left (u := { s with pending := rest }) rfl rfl rfl rfl rfl rfl (exec r _ t h)

end StepKeeps

/-! ### Targets ahead (R79) -/

theorem armed_ahead {s : State} {n : Stream} {T : Word} (h : ArmedLaw s) (hT : s.lists[n].target = some T) :
    1 ≤ (T - s.points[n].counter).toNat ∧ (T - s.points[n].counter).toNat ≤ 32767 := by
  obtain ⟨⟨-, harmed⟩, -⟩ := h n
  obtain ⟨-, hahead⟩ := harmed T hT
  exact hahead

/-- Settles O9: what each kind of step does to entries, views, lists and queues keeps the laws that tie them together. -/
theorem stepKeepsRecordLaw : Obligations.StepKeepsRecordLaw := by
  unfold Obligations.StepKeepsRecordLaw
  intro s t hserving hrecord hstep
  exact (StepKeeps.of_step hstep).law (sound_of_laws hrecord hserving) (recordLaw_iff.1 hrecord).2
    (resettingAlone_of_servingLaw hserving)

/-- Settles O10: the moves of lists, views and entries, by the kind of step. -/
theorem recordsChangeOnlyAtTheirEvents : Obligations.RecordsChangeOnlyAtTheirEvents := by
  unfold Obligations.RecordsChangeOnlyAtTheirEvents
  refine ⟨?_, ?_, ?_⟩
  · intro s t n T harmed hstep hT
    exact ⟨armed_ahead harmed hT, (StepKeeps.of_step hstep).lists n T hT⟩
  · intro s t n hrecord hstep
    exact (StepKeeps.of_step hstep).views hrecord n
  · intro s t i hrecord hstep hreset
    exact (StepKeeps.of_step hstep).entries hrecord hreset i

end Sys2Proof.ProfileTable

/-! PROOFS. The pages and the words of the Knot Memory: what holds them, and what writes them. -/

namespace Sys2Proof.KnotStore

open Sys2Proof Sys2Proof.Machine Sys2Proof.Safety Sys2Proof.ProfileTable

/-! ### The pages held (R26) -/

/-- The pages in the page lists of the entries but for entry i. -/
def othersPages (s : State) (i : EntryIndex) : List Nat :=
  (s.entries.toList.take i.val ++ s.entries.toList.drop (i.val + 1)).flatMap (fun e => e.pages)

/-- The pages held, those of entry i apart from the other entries'. -/
theorem pagesHeld_perm (s : State) (i : EntryIndex) :
    (pagesHeld s).Perm (s.freePages ++ (s.entries[i].pages ++ othersPages s i)) := by
  have hlen : i.val < s.entries.toList.length := by
    rw [Vector.length_toList]
    exact i.isLt
  have hsplit : s.entries.toList = s.entries.toList.take i.val ++ s.entries[i] :: s.entries.toList.drop (i.val + 1) := by
    conv_lhs => rw [← List.take_append_drop i.val s.entries.toList, List.drop_eq_getElem_cons hlen]
    simp
  unfold pagesHeld othersPages
  refine List.Perm.append_left _ ?_
  conv_lhs => rw [hsplit]
  rw [List.flatMap_append, List.flatMap_append, List.flatMap_cons, ← List.append_assoc, ← List.append_assoc]
  exact List.perm_append_comm.append_right _

theorem othersPages_set {s t : State} {i : EntryIndex} {e : Entry} (h : t.entries = s.entries.set i e) :
    othersPages t i = othersPages s i := by
  have hlist : t.entries.toList = s.entries.toList.set i.val e := by rw [h, Vector.toList_set]
  unfold othersPages
  rw [hlist, List.take_set_of_le (Nat.le_refl _), List.drop_set_of_lt (Nat.lt_succ_self _)]

/-- Pages held go by the free list and the page lists. -/
theorem pagesHeld_congr {s t : State} (hf : t.freePages = s.freePages)
    (h : ∀ i : EntryIndex, t.entries[i].pages = s.entries[i].pages) : pagesHeld t = pagesHeld s := by
  have hmap : t.entries.toList.map (fun e => e.pages) = s.entries.toList.map (fun e => e.pages) := by
    refine List.ext_getElem (by simp) (fun k h1 _ => ?_)
    simpa using h ⟨k, by simpa using h1⟩
  unfold pagesHeld
  rw [hf, List.flatMap_def, List.flatMap_def, hmap]

section Accounting

variable {s : State}

theorem pagesHeld_nodup (h : StoreLaw s) : (pagesHeld s).Nodup := h.2.1.nodup_iff.2 List.nodup_range

theorem nodup_heldWith (h : StoreLaw s) (i : EntryIndex) :
    (s.freePages ++ (s.entries[i].pages ++ othersPages s i)).Nodup :=
  (pagesHeld_perm s i).nodup_iff.1 (pagesHeld_nodup h)

theorem mem_othersPages {i k : EntryIndex} {page : Nat} (hk : k ≠ i) (hp : page ∈ s.entries[k].pages) :
    page ∈ othersPages s i := by
  have hlen : s.entries.toList.length = 64 := Vector.length_toList
  refine List.mem_flatMap.2 ⟨s.entries[k], List.mem_append.2 ?_, hp⟩
  rcases Nat.lt_or_gt_of_ne (fun e => hk (Fin.ext e)) with hlt | hgt
  · refine Or.inl (List.mem_take_iff_getElem.2 ⟨k.val, by omega, by simp⟩)
  · refine Or.inr (List.mem_drop_iff_getElem.2 ⟨k.val - (i.val + 1), by omega, ?_⟩)
    have hpos : i.val + 1 + (k.val - (i.val + 1)) = k.val := by omega
    simp [hpos]

/-- A page of an entry is a page of the part, none of the free list's, and none of another entry's. -/
theorem page_lt (h : StoreLaw s) {i : EntryIndex} {page : Nat} (hp : page ∈ s.entries[i].pages) : page < 512 := by
  have hmem := ((pagesHeld_perm s i).symm.trans h.2.1).mem_iff (a := page)
  exact List.mem_range.1 (hmem.1 (List.mem_append_right _ (List.mem_append_left _ hp)))

theorem freePage_lt (h : StoreLaw s) {page : Nat} (hp : page ∈ s.freePages) : page < 512 :=
  List.mem_range.1 (h.2.1.mem_iff.1 (List.mem_append_left _ hp))

theorem page_not_free (h : StoreLaw s) {i : EntryIndex} {page : Nat} (hp : page ∈ s.entries[i].pages) :
    page ∉ s.freePages := fun hf =>
  List.disjoint_of_nodup_append (nodup_heldWith h i) hf (List.mem_append_left _ hp)

theorem page_not_others (h : StoreLaw s) {i k : EntryIndex} {page : Nat} (hk : k ≠ i)
    (hp : page ∈ s.entries[i].pages) : page ∉ s.entries[k].pages := fun hf =>
  List.disjoint_of_nodup_append (List.nodup_append.1 (nodup_heldWith h i)).2.1 hp (mem_othersPages hk hf)

/-- The address of a knot lies in a page of its entry. -/
theorem page_of_knotAddress {i : EntryIndex} {j a : Nat} (h : s.knotAddress i j = some a) :
    a / 64 ∈ s.entries[i].pages := by
  obtain ⟨page, hpage, rfl⟩ := Option.map_eq_some_iff.1 h
  have hdiv : (64 * page + j % 64) / 64 = page := by omega
  rw [hdiv]
  exact List.mem_of_getElem? hpage

/-- Free pages and allocated pages add up to 512 (R26). -/
theorem pages_add_up (h : StoreLaw s) : s.freePages.length +
    ((s.entries.toList.filter (fun e => e.state ≠ .free)).map (fun e => e.pages.length)).sum = 512 := by
  have hall : ∀ l : List Entry, (∀ e ∈ l, e.state = .free → e.pages = []) →
      ((l.filter (fun e => e.state ≠ .free)).map (fun e => e.pages.length)).sum =
        (l.flatMap (fun e => e.pages)).length := by
    intro l
    induction l with
    | nil => exact fun _ => rfl
    | cons e l ih =>
      intro hl
      have ih' := ih (fun x hx => hl x (List.mem_cons_of_mem _ hx))
      rw [List.flatMap_cons, List.length_append, ← ih', List.filter_cons]
      by_cases he : e.state = .free
      · simp [he, hl e List.mem_cons_self he]
      · simp [he]
  have hnone : ∀ e ∈ s.entries.toList, e.state = .free → e.pages = [] := by
    intro e he
    obtain ⟨k, hk, rfl⟩ := List.mem_iff_getElem.1 he
    simpa using h.2.2 ⟨k, by simpa using hk⟩
  have hlen := h.2.1.length_eq
  unfold pagesHeld at hlen
  rwa [List.length_append, List.length_range, ← hall _ hnone] at hlen

end Accounting

/-- Every condition has a rank below 75 (R176). -/
theorem rank_lt (a : Alert) : a.rank < 75 := by
  cases a <;> simp only [Alert.rank] <;> omega

theorem alerts_length_le {s : State} (h : AlertLaw s) : s.alerts.length ≤ 75 := by
  have hnodup : (s.alerts.map Alert.rank).Nodup := (List.pairwise_map.2 h).imp Nat.ne_of_lt
  have hsub : s.alerts.map Alert.rank ⊆ List.range 75 := by
    intro r hr
    obtain ⟨a, -, rfl⟩ := List.mem_map.1 hr
    exact List.mem_range.2 (rank_lt a)
  simpa using (hnodup.subperm hsub).length_le

end Sys2Proof.KnotStore

/-! PROOFS. Steps that write no knot word: the pages stay accounted for, and the alert set in order. -/

namespace Sys2Proof.KnotStore

open Sys2Proof Sys2Proof.Machine Sys2Proof.Safety Sys2Proof.ProfileTable

/-- A FREE entry holds no page (R26). -/
def FreeHoldNone (s : State) : Prop := ∀ i : EntryIndex, s.entries[i].state = .free → s.entries[i].pages = []

/-- From s to t no word is written and no page is lost, and the alert set keeps its order. -/
structure PagesKept (s t : State) : Prop where
  memory : t.memory = s.memory
  pages : (pagesHeld t).Perm (pagesHeld s)
  free : FreeHoldNone s → FreeHoldNone t
  alerts : AlertLaw s → AlertLaw t

theorem alertLaw_raise {s : State} (a : Alert) (h : AlertLaw s) : AlertLaw (s.raise a) := insertAlert_sorted h

namespace PagesKept

variable {s t u : State}

theorem trans (h : PagesKept s t) (h' : PagesKept t u) : PagesKept s u :=
  ⟨h'.memory.trans h.memory, h'.pages.trans h.pages, h'.free ∘ h.free, h'.alerts ∘ h.alerts⟩

theorem storeLaw (h : PagesKept s t) (hs : StoreLaw s) : StoreLaw t := by
  obtain ⟨⟨hwf, hlt⟩, hperm, hfree⟩ := hs
  refine ⟨⟨?_, ?_⟩, h.pages.trans hperm, h.free hfree⟩
  · rw [h.memory]
    exact hwf
  · rw [h.memory]
    exact hlt

/-- Entries written, each with the pages that it had, and none made FREE. -/
theorem of_entries (he : ∀ i : EntryIndex, t.entries[i].pages = s.entries[i].pages ∧
      (t.entries[i].state = .free → s.entries[i].state = .free))
    (hf : t.freePages = s.freePages) (hm : t.memory = s.memory) (ha : AlertLaw s → AlertLaw t) : PagesKept s t := by
  refine ⟨hm, by rw [pagesHeld_congr hf (fun i => (he i).1)], ?_, ha⟩
  intro h i hi
  obtain ⟨hpages, hstate⟩ := he i
  rw [hpages]
  exact h i (hstate hi)

/-- Entries, the free list, the memory and the alert set as they were. -/
theorem of_same (he : t.entries = s.entries) (hf : t.freePages = s.freePages) (hm : t.memory = s.memory)
    (ha : t.alerts = s.alerts) : PagesKept s t := by
  refine of_entries (fun i => ?_) hf hm (fun h => ?_)
  · rw [he]
    exact ⟨rfl, id⟩
  · unfold AlertLaw
    rw [ha]
    exact h

theorem refl (s : State) : PagesKept s s := of_same rfl rfl rfl rfl

theorem foldl {α : Type} {f : State → α → State} (hf : ∀ s a, PagesKept s (f s a)) (l : List α) (s : State) :
    PagesKept s (l.foldl f s) := by
  induction l generalizing s with
  | nil => exact refl s
  | cons a l ih => exact (hf s a).trans (ih _)

/-- One entry written, with the pages that it had, and not made FREE. -/
theorem setEntry {i : EntryIndex} {e : Entry} (hp : e.pages = s.entries[i].pages)
    (hst : e.state = .free → s.entries[i].state = .free) : PagesKept s (s.setEntry i e) := by
  refine of_entries (fun j => ?_) rfl rfl id
  by_cases hj : j = i
  · subst hj
    rw [setEntry_get_same]
    exact ⟨hp, hst⟩
  · rw [setEntry_get_other _ _ _ _ hj]
    exact ⟨rfl, id⟩

theorem raise (s : State) (a : Alert) : PagesKept s (s.raise a) :=
  of_entries (fun _ => ⟨rfl, id⟩) rfl rfl (alertLaw_raise a)

/-- A freed entry's pages join the free list (R13, R29). -/
theorem freeEntry (s : State) (i : EntryIndex) : PagesKept s (s.freeEntry i) := by
  refine ⟨rfl, ?_, ?_, id⟩
  · have hfreed := pagesHeld_perm (s.freeEntry i) i
    rw [freeEntry_same, othersPages_set (s := s) (i := i) rfl] at hfreed
    have hlist : (s.freeEntry i).freePages = s.freePages ++ s.entries[i].pages := rfl
    rw [hlist, List.append_assoc] at hfreed
    exact hfreed.trans (pagesHeld_perm s i).symm
  · intro h j hj
    by_cases hi : j = i
    · subst hi
      rw [freeEntry_same]
      rfl
    · rw [freeEntry_other s i j hi] at hj ⊢
      exact h j hj

/-! ### Answers, jobs, windows -/

theorem respond (h : PagesKept s t) (tag code : Byte) (r : Result) (d : List Byte) :
    PagesKept s (t.respond tag code r d) := h.trans (of_same rfl rfl rfl rfl)

theorem answer (s : State) (tag code : Byte) (r : Result) (d : List Byte) : PagesKept s (s.respond tag code r d) :=
  (refl s).respond tag code r d

theorem endJob (h : PagesKept s t) (tag code : Byte) (r : Result) (d : List Byte) :
    PagesKept s (t.endJob tag code r d) := h.trans (of_same rfl rfl rfl rfl)

theorem windowSelected (s : State) (w : Window) (acks : List Bool) : PagesKept s (s.selectWindow w acks) :=
  of_same rfl rfl rfl rfl

theorem reportDamage (s : State) (i : EntryIndex) : PagesKept s (s.reportDamage i) := by
  have hmark : PagesKept s ((s.setEntry i { s.entries[i] with damaged := true }).raise (.damaged i)) :=
    (setEntry (e := { s.entries[i] with damaged := true }) rfl id).trans (raise _ _)
  unfold State.reportDamage
  split
  · exact hmark
  · exact hmark
  · exact hmark
  · exact refl s
  · exact refl s

/-! ### Lookups (R17, R18, chapter 7) -/

theorem modPort (s : State) (p : Stream) (f : Port → Port) : PagesKept s (s.modPort p f) := of_same rfl rfl rfl rfl

theorem setPort (s : State) (p : Stream) (x : Port) : PagesKept s (s.setPort p x) := of_same rfl rfl rfl rfl

theorem send (s : State) (p : Stream) (ms : List OutMessage) : PagesKept s (s.send p ms) := modPort s p _

theorem withDatapath (s : State) (d : Option Producing) (last : Stream) :
    PagesKept s { s with datapath := d, lastGranted := last } := of_same rfl rfl rfl rfl

theorem releaseLookupRef (s : State) (i : EntryIndex) : PagesKept s (s.releaseLookupRef i) := by
  by_cases hd : Drains s i
  · rw [releaseLookupRef_drains hd]
    exact freeEntry s i
  · rw [releaseLookupRef_keeps hd]
    exact setEntry rfl id

theorem releaseRefs (s : State) (sel : Selection) : PagesKept s (s.releaseRefs sel) :=
  foldl releaseLookupRef sel.sources s

theorem takeRefs (s : State) (sel : Selection) : PagesKept s (s.takeRefs sel) :=
  foldl (f := State.takeLookupRef) (fun _ _ => setEntry rfl id) sel.sources s

theorem endHead (s : State) (p : Stream) (ms : List OutMessage) : PagesKept s (s.endHead p ms) := by
  cases hq : s.ports[p].queue with
  | nil =>
    unfold State.endHead
    rw [hq]
    exact refl s
  | cons h rest =>
    rw [endHead_eq ms hq]
    unfold headEnded
    cases rest <;> exact (releaseRefs s h.selection).trans (setPort _ p _)

theorem endWaiting (s : State) (p : Stream) (ms : List OutMessage) : PagesKept s (s.endWaiting p ms) := by
  unfold State.endWaiting
  split
  · next h w _ _ => exact (releaseRefs s w.selection).trans (modPort _ p _)
  · exact refl s

theorem acceptLookup (s : State) (p : Stream) (c : ViewConfig) (tag : Byte) (key : Word) (first count : Nat) :
    PagesKept s (s.acceptLookup p c tag key first count) := by
  have htake := takeRefs s (s.select p key)
  by_cases hq : s.ports[p].queue = []
  · rw [acceptLookup_head hq]
    exact htake.trans (setPort _ p _)
  · rw [acceptLookup_waiting hq]
    exact htake.trans (setPort _ p _)

theorem takeLookup (s : State) (p : Stream) (tag : Byte) (key : Word) (first count : Nat) :
    PagesKept s (s.takeLookup p tag key first count) := by
  unfold State.takeLookup
  dsimp only
  split
  · exact send s p _
  · split
    · exact send s p _
    · split
      · exact send s p _
      · split
        · exact send s p _
        · split
          · exact send s p _
          · split
            · exact acceptLookup s p _ tag key first count
            · exact send s p _

theorem takeCancel (s : State) (p : Stream) (tag : Byte) : PagesKept s (s.takeCancel p tag) := by
  unfold State.takeCancel
  split
  · exact send s p _
  · split
    · split
      · exact endHead s p _
      · exact modPort s p _
    · split
      · exact send s p _
      · split
        · exact endWaiting s p _
        · exact send s p _

theorem takeReset (s : State) (p : Stream) : PagesKept s (s.takeReset p) := by
  unfold State.takeReset
  split
  · exact modPort s p _
  · split
    · exact (endWaiting s p _).trans (modPort _ p _)
    · exact (foldl (f := fun s (l : Lookup) => s.releaseRefs l.selection)
        (fun s l => releaseRefs s l.selection) _ s).trans (modPort _ p _)

theorem takeMessage (s : State) (p : Stream) (m : LinkMessage) : PagesKept s (s.takeMessage p m) := by
  cases m with
  | lookup tag key first count => exact takeLookup s p tag key _ _
  | credit n =>
    unfold State.takeMessage
    dsimp only
    split
    · exact setPort s p _
    · exact refl s
  | cancel tag =>
    unfold State.takeMessage
    dsimp only
    split
    · exact takeCancel s p _
    · exact refl s
  | reset =>
    unfold State.takeMessage
    dsimp only
    split
    · exact takeReset s p
    · exact refl s

theorem arrive (s : State) (p : Stream) (m : LinkMessage) : PagesKept s (s.arrive p m) := by
  unfold State.arrive
  split
  · split
    · exact modPort s p _
    · exact send s p _
  · exact takeMessage s p m

theorem discard (s : State) (p : Stream) : PagesKept s (s.discard p) := by
  unfold State.discard
  dsimp only
  split
  · exact (modPort s p _).trans (send _ p _)
  · exact modPort s p _

theorem judgeMessage (s : State) (p : Stream) (bytes : List Byte) : PagesKept s (s.judgeMessage p bytes) := by
  unfold State.judgeMessage
  split
  · split
    · exact arrive s p _
    · exact discard s p
  · exact discard s p

theorem receiveByte (s : State) (p : Stream) (b : Byte) : PagesKept s (s.receiveByte p b) := by
  unfold State.receiveByte
  split
  · split
    · exact modPort s p _
    · exact refl s
  · split
    · exact refl s
    · split
      · exact discard s p
      · exact modPort s p _
  · dsimp only
    split
    · exact discard s p
    · split
      · exact modPort s p _
      · exact (modPort s p _).trans (judgeMessage _ p _)

theorem receive (s : State) (p : Stream) (bytes : List Byte) : PagesKept s (s.receive p bytes) :=
  foldl (fun s b => receiveByte s p b) bytes s

theorem expire (s : State) (p : Stream) : PagesKept s (s.expire p) := by
  unfold State.expire
  split
  · exact refl s
  · exact endHead s p _

theorem tick (s : State) : PagesKept s s.tick := by
  unfold State.tick
  split
  · exact expire s _
  · exact foldl (fun s p => modPort s p _) allStreams s

theorem waitingDisabled (s : State) (p : Stream) (rest : List Lookup) : PagesKept s (waitingDisabled s p rest) := by
  cases rest with
  | nil => exact refl s
  | cons w ws => exact endWaiting s p _

theorem disablePort (s : State) (p : Stream) : PagesKept s (s.disablePort p) := by
  cases hq : s.ports[p].queue with
  | nil =>
    rw [disablePort_nil hq]
    exact refl s
  | cons h rest =>
    rw [disablePort_cons hq]
    split
    · exact (waitingDisabled s p rest).trans (endHead _ p _)
    · split
      · exact waitingDisabled s p rest
      · exact (waitingDisabled s p rest).trans (modPort _ p _)

theorem finishReset (s : State) (p : Stream) : PagesKept s (s.finishReset p) := by
  unfold State.finishReset
  split
  · exact refl s
  · exact ((releaseRefs s _).trans (modPort _ p _)).trans (foldl (fun s m => takeMessage s p m) _ _)

theorem handOver (s : State) (p : Stream) (h : Lookup) (r : Nat) (ks : List Knot) :
    PagesKept s (s.handOver p h r ks) := by
  have hidle := withDatapath s none s.lastGranted
  unfold State.handOver
  dsimp only
  split
  · exact hidle.trans (finishReset _ p)
  · have hrow := hidle.trans (modPort _ p (fun x => x.makeRow r ks))
    split
    · exact hrow.trans (endHead _ p _)
    · split
      · exact hrow.trans (endHead _ p _)
      · exact hrow.trans (modPort _ p _)

theorem reportFault (s : State) (p : Stream) (h : Lookup) (i : EntryIndex) : PagesKept s (s.reportFault p h i) := by
  have hdamage := (reportDamage s i).trans (withDatapath _ none (s.reportDamage i).lastGranted)
  unfold State.reportFault
  dsimp only
  split
  · exact hdamage.trans (finishReset _ p)
  · exact hdamage.trans (endHead _ p _)

end PagesKept

end Sys2Proof.KnotStore

/-! PROOFS. Requests, windows, points and the ends of long requests that write no knot word. -/

namespace Sys2Proof.KnotStore

open Sys2Proof Sys2Proof.Machine Sys2Proof.Safety Sys2Proof.ProfileTable

namespace PagesKept

variable {s t : State}

/-! ### Profiles and knots -/

theorem delete (tag : Byte) (h : RawHandle) (s : State) : PagesKept s (reqDelete tag h s) := by
  unfold reqDelete
  split
  · exact answer s tag _ _ _
  · next i _ =>
    split
    · exact (freeEntry s i).respond tag _ _ _
    · split
      · exact answer s tag _ _ _
      · split
        · exact (freeEntry s i).respond tag _ _ _
        · exact (setEntry (i := i) (e := { s.entries[i] with state := .draining }) rfl nofun).respond tag _ _ _
    · exact answer s tag _ _ _
    · exact answer s tag _ _ _
    · exact answer s tag _ _ _

theorem queryProfile (tag : Byte) (h : RawHandle) (s : State) : PagesKept s (reqQueryProfile tag h s) := by
  unfold reqQueryProfile
  split
  · dsimp only
    split <;> exact answer s tag _ _ _
  · exact answer s tag _ _ _

theorem readKnots (tag : Byte) (h : RawHandle) (first : Word) (count : Byte) (s : State) :
    PagesKept s (reqReadKnots tag h first count s) := by
  unfold reqReadKnots
  split
  · exact answer s tag _ _ _
  · split
    · exact answer s tag _ _ _
    · split
      · exact answer s tag _ _ _
      · split
        · exact answer s tag _ _ _
        · exact (reportDamage s _).respond tag _ _ _

/-- A long request begun. -/
theorem startJob (s : State) (tag code : Byte) (job : Job) : PagesKept s (s.startJob tag code job) :=
  of_same rfl rfl rfl rfl

theorem finish (tag : Byte) (h : RawHandle) (crc : Word) (s : State) : PagesKept s (reqFinish tag h crc s) := by
  unfold reqFinish
  split
  · exact answer s tag _ _ _
  · split
    · exact answer s tag _ _ _
    · exact startJob s tag _ _

theorem verify (tag : Byte) (h : RawHandle) (s : State) : PagesKept s (reqVerify tag h s) := by
  unfold reqVerify
  split
  · exact answer s tag _ _ _
  · split
    · exact startJob s tag _ _
    · exact answer s tag _ _ _

/-! ### Views, edits, commits -/

theorem configureView (tag stream columns rows channels format : Byte) (s : State) :
    PagesKept s (reqConfigureView tag stream columns rows channels format s) := by
  unfold reqConfigureView
  split
  · exact answer s tag _ _ _
  · split
    · split
      · exact of_same rfl rfl rfl rfl
      · exact answer s tag _ _ _
    · exact answer s tag _ _ _

theorem queryView (tag stream : Byte) (s : State) : PagesKept s (reqQueryView tag stream s) := by
  unfold reqQueryView
  split <;> exact answer s tag _ _ _

theorem acceptEdit (s : State) (tag code : Byte) (n : Stream) (e : Edit) : PagesKept s (s.acceptEdit tag code n e) := by
  have hlist : PagesKept s (s.setList n { s.lists[n] with edits := s.lists[n].edits ++ [e] }) := of_same rfl rfl rfl rfl
  have hpending : ∀ u : State, PagesKept u (u.takePending e.handle.index) := fun _ => setEntry rfl id
  exact (hlist.trans (hpending _)).respond tag code _ _

theorem attach (tag stream : Byte) (h : RawHandle) (key plateau : Word) (s : State) :
    PagesKept s (reqAttach tag stream h key plateau s) := by
  unfold reqAttach
  split
  · exact answer s tag _ _ _
  · split
    · exact answer s tag _ _ _
    · split
      · exact answer s tag _ _ _
      · split
        · exact answer s tag _ _ _
        · split
          · exact answer s tag _ _ _
          · exact acceptEdit s tag _ _ _

theorem detach (tag stream : Byte) (h : RawHandle) (s : State) : PagesKept s (reqDetach tag stream h s) := by
  unfold reqDetach
  split
  · exact answer s tag _ _ _
  · split
    · exact acceptEdit s tag _ _ _
    · exact answer s tag _ _ _

theorem move (tag stream : Byte) (h : RawHandle) (key plateau : Word) (s : State) :
    PagesKept s (reqMove tag stream h key plateau s) := by
  unfold reqMove
  split
  · exact answer s tag _ _ _
  · split
    · exact acceptEdit s tag _ _ _
    · exact answer s tag _ _ _

theorem commit (tag mask kind : Byte) (n : Word) (s : State) : PagesKept s (reqCommit tag mask kind n s) := by
  unfold reqCommit
  split
  · split
    · exact answer s tag _ _ _
    · split
      · exact answer s tag _ _ _
      · exact (foldl (f := fun s (p : Stream × Word) => s.arm p.1 p.2) (fun _ _ => of_same rfl rfl rfl rfl) _ s).respond
          tag _ _ _
  · exact answer s tag _ _ _

theorem withdraw (tag mask : Byte) (s : State) : PagesKept s (reqWithdraw tag mask s) := by
  unfold reqWithdraw
  split
  · exact answer s tag _ _ _
  · exact (foldl (f := State.disarm) (fun _ _ => of_same rfl rfl rfl rfl) _ s).respond tag _ _ _

theorem emptyList (s : State) (n : Stream) : PagesKept s (s.emptyList n) :=
  (foldl (f := fun s (e : Edit) => s.releasePending e.handle.index) (fun _ _ => setEntry rfl id)
    s.lists[n].edits s).trans (of_same rfl rfl rfl rfl)

theorem discardLists (tag mask : Byte) (s : State) : PagesKept s (reqDiscard tag mask s) := by
  unfold reqDiscard
  split
  · exact answer s tag _ _ _
  · exact (foldl emptyList _ s).respond tag _ _ _

theorem queryEdits (tag stream : Byte) (s : State) : PagesKept s (reqQueryEdits tag stream s) := by
  unfold reqQueryEdits
  split <;> exact answer s tag _ _ _

/-! ### Points (R80, R94 to R96) -/

/-- An entry that an applied list settles is STAGED or LIVE. -/
theorem settleEdit (s : State) (n : Stream) (e : Edit) : PagesKept s (s.settleEdit n e) := by
  refine setEntry rfl (fun h => ?_)
  unfold stateOfMembership at h
  dsimp only at h
  split at h <;> cases h

theorem apply (s : State) (n : Stream) : PagesKept s (s.apply n) := by
  have hview : PagesKept s (s.setView n (appliedView s n)) := of_same rfl rfl rfl rfl
  have hsettled := hview.trans (foldl (f := fun s e => s.settleEdit n e) (fun s e => settleEdit s n e) s.lists[n].edits _)
  have hlist := hsettled.trans (u := State.setList _ n { edits := [], target := none }) (of_same rfl rfl rfl rfl)
  unfold State.apply
  dsimp only
  split
  · exact hlist.trans (raise _ _)
  · exact hlist

theorem pointed {n : Stream} (h : Pointed s t n) : PagesKept s t := by
  obtain ⟨u, hu, -, hcases⟩ := h
  have hsu : PagesKept s u := by
    rw [hu]
    exact of_same rfl rfl rfl rfl
  rcases hcases with rfl | ⟨rfl, -⟩
  · exact hsu
  · exact hsu.trans (apply u n)

theorem point (tag mask : Byte) (s : State) : PagesKept s (reqPoint tag mask s) := by
  unfold reqPoint
  split
  · exact answer s tag _ _ _
  · exact (foldl (fun s n => pointed (pointed_makePoint s n)) _ s).respond tag _ _ _

theorem setPoints (tag stream source polarity prescale : Byte) (s : State) :
    PagesKept s (reqSetPoints tag stream source polarity prescale s) := by
  unfold reqSetPoints
  split
  · split
    · exact answer s tag _ _ _
    · split
      · exact answer s tag _ _ _
      · exact of_same rfl rfl rfl rfl
  · exact answer s tag _ _ _

theorem clearCounts (tag mask : Byte) (s : State) : PagesKept s (reqClearCounts tag mask s) := by
  unfold reqClearCounts
  split
  · exact answer s tag _ _ _
  · exact (foldl (f := State.clearCount) (fun _ _ => of_same rfl rfl rfl rfl) _ s).respond tag _ _ _

/-! ### Ports, slots, settings -/

theorem setPortRequest (tag port enable stallLimit : Byte) (s : State) :
    PagesKept s (reqSetPort tag port enable stallLimit s) := by
  unfold reqSetPort
  split
  · next p e _ _ =>
    dsimp only
    refine PagesKept.respond ?_ tag _ _ _
    have hmod := modPort s p (fun x => { x with enabled := e, stallLimit := stallLimit })
    split
    · exact hmod.trans (disablePort _ p)
    · exact hmod
  · exact answer s tag _ _ _

theorem queryPort (tag port : Byte) (s : State) : PagesKept s (reqQueryPort tag port s) := by
  unfold reqQueryPort
  split <;> exact answer s tag _ _ _

theorem programBaseline (tag slot : Byte) (h : RawHandle) (key plateau : Word) (s : State) :
    PagesKept s (reqProgramBaseline tag slot h key plateau s) := by
  unfold reqProgramBaseline
  split
  · exact answer s tag _ _ _
  · split
    · exact answer s tag _ _ _
    · split
      · exact answer s tag _ _ _
      · split
        · exact answer s tag _ _ _
        · split
          · exact answer s tag _ _ _
          · exact startJob s tag _ _

theorem querySlot (tag slot : Byte) (s : State) : PagesKept s (reqQuerySlot tag slot s) := by
  unfold reqQuerySlot
  split <;> exact answer s tag _ _ _

theorem setGroup (tag address enable acknowledger : Byte) (s : State) :
    PagesKept s (reqSetGroup tag address enable acknowledger s) := by
  unfold reqSetGroup
  split
  · split
    · exact of_same rfl rfl rfl rfl
    · exact answer s tag _ _ _
  · exact answer s tag _ _ _

theorem setAlerts (tag mask : Byte) (watermark : Word) (s : State) :
    PagesKept s (reqSetAlerts tag mask watermark s) := by
  unfold reqSetAlerts
  split
  · exact answer s tag _ _ _
  · split
    · exact answer s tag _ _ _
    · exact of_same rfl rfl rfl rfl

/-- What READ_ALERTS leaves of the set is its tail (R178). -/
theorem readAlerts (tag : Byte) (s : State) : PagesKept s (reqReadAlerts tag s) :=
  of_entries (fun _ => ⟨rfl, id⟩) rfl rfl (fun h => List.Pairwise.sublist (List.drop_sublist 16 s.alerts) h)

/-! ### Group writes and ABORT (R171, R174) -/

theorem runGroupRequest (tag : Byte) (r : Request) (s : State) : PagesKept s (runGroupRequest tag r s) := by
  unfold Machine.runGroupRequest
  split
  · exact commit tag _ _ _ s
  · exact withdraw tag _ s
  · exact discardLists tag _ s
  · exact point tag _ s
  · exact clearCounts tag _ s
  · exact answer s tag _ _ _

theorem closeGroupWrite (s : State) (message : List Byte) : PagesKept s (s.closeGroupWrite message) := by
  unfold State.closeGroupWrite
  split
  · unfold State.answerJudged
    split
    · exact answer s _ _ _ _
    · exact answer s _ _ _ _
    · exact runGroupRequest _ _ s
  · exact raise s _
  · exact raise s _

theorem takeAbort (s : State) : PagesKept s s.takeAbort := by
  unfold State.takeAbort
  split
  · exact (refl s).endJob _ _ _ _
  · exact (refl s).endJob _ _ _ _
  · exact (freeEntry s _).endJob _ _ _ _
  · exact refl s
  · exact refl s
  · exact refl s

/-! ### The ends of long requests (R40, R43, R155, R156) -/

theorem endFinish (tag : Byte) (i : EntryIndex) (crc : Word) (s : State) : PagesKept s (endFinish tag i crc s) := by
  unfold Machine.endFinish
  split
  · exact (refl s).endJob _ _ _ _
  · next c _ =>
    split
    · exact (setEntry (i := i) (e := { s.entries[i] with state := .staged, checkValue := some c }) rfl nofun).endJob
        _ _ _ _
    · exact (refl s).endJob _ _ _ _

theorem endVerify (tag : Byte) (i : EntryIndex) (s : State) : PagesKept s (endVerify tag i s) := by
  unfold Machine.endVerify
  split
  · exact (reportDamage s i).endJob _ _ _ _
  · split
    · exact (refl s).endJob _ _ _ _
    · exact (reportDamage s i).endJob _ _ _ _

theorem endScan (tag : Byte) (n : Stream) (i : EntryIndex) (key plateau : Word) (s : State) :
    PagesKept s (endScan tag n i key plateau s) := by
  unfold Machine.endScan
  split
  · exact (reportDamage s i).endJob _ _ _ _
  · split
    · exact (reportDamage s i).endJob _ _ _ _
    · split
      · exact (refl s).endJob _ _ _ _
      · exact of_same rfl rfl rfl rfl

theorem endWrite (recorded : Bool) (tag : Byte) (n : Stream) (i : EntryIndex) (key plateau : Word) (bases : List Knot)
    (s : State) : PagesKept s (endWrite recorded tag n i key plateau bases s) := by
  unfold Machine.endWrite
  split
  · exact (reportDamage s i).trans (of_same rfl rfl rfl rfl)
  · exact of_same rfl rfl rfl rfl

theorem endProgram (writesTook recorded : Bool) (tag : Byte) (n : Stream) (bases : List Knot) (s : State) :
    PagesKept s (endProgram writesTook recorded tag n bases s) := by
  unfold Machine.endProgram
  split <;> exact of_same rfl rfl rfl rfl

/-! ### The start-up load (R162, R163) -/

theorem leaveEmpty (s : State) (n : Stream) (g : Geometry) (fmt : Format) : PagesKept s (s.leaveEmpty n g fmt) :=
  (of_same (s := s) (t := s.setView n _) rfl rfl rfl rfl).trans (raise _ _)

theorem attachBaseline (s : State) (n : Stream) (i : EntryIndex) (f : SlotFields) (g : Geometry) (fmt : Format) :
    PagesKept s (s.attachBaseline n i f g fmt) :=
  (setEntry (e := { s.entries[i] with state := .live, checkValue := some f.crc, membership := streamBit n }) rfl
    nofun).trans (of_same rfl rfl rfl rfl)

theorem started (s : State) : PagesKept s s.started :=
  ((raise s .started).trans (of_same (t := { s.raise .started with engine := .idle }) rfl rfl rfl rfl)).trans
    (foldl (fun s p => modPort s p _) allStreams _)

end PagesKept

end Sys2Proof.KnotStore

/-! PROOFS. Steps that write knot words: grants, runs of knots, loads, stored faults, the device reset; and every step. -/

namespace Sys2Proof.KnotStore

open Sys2Proof Sys2Proof.Machine Sys2Proof.Safety Sys2Proof.ProfileTable

/-! ### Words written within the part (R25) -/

theorem canonical_write {m : Memory} {a : Nat} {w : KnotWord} (h : m.wf = true ∧ ∀ c ∈ m, c.1 < 32768)
    (ha : a < 32768) : (m.write a w).wf = true ∧ ∀ c ∈ m.write a w, c.1 < 32768 := by
  obtain ⟨hwf, hlt⟩ := h
  refine ⟨Memory.wf_write hwf, fun c hc => ?_⟩
  rcases Memory.mem_write hc with hc | rfl
  · exact hlt c hc
  · exact ha

theorem canonical_fillPage {m : Memory} {page : Nat} {w : KnotWord} (h : m.wf = true ∧ ∀ c ∈ m, c.1 < 32768)
    (hp : page < 512) : (m.fillPage page w).wf = true ∧ ∀ c ∈ m.fillPage page w, c.1 < 32768 := by
  obtain ⟨hwf, hlt⟩ := h
  refine ⟨Memory.wf_fillPage hwf, fun c hc => ?_⟩
  unfold Memory.fillPage at hc
  rcases List.mem_append.1 hc with hc | hc
  · rcases List.mem_append.1 hc with hc | hc
    · exact hlt c (List.mem_filter.1 hc).1
    · obtain ⟨-, hhigh, -⟩ := Memory.mem_pageCells hc
      omega
  · exact hlt c (List.mem_filter.1 hc).1

theorem canonical_fillPages (pages : List Nat) {m : Memory} {w : KnotWord}
    (h : m.wf = true ∧ ∀ c ∈ m, c.1 < 32768) (hp : ∀ page ∈ pages, page < 512) :
    (pages.foldl (fun m p => m.fillPage p w) m).wf = true ∧
      ∀ c ∈ pages.foldl (fun m p => m.fillPage p w) m, c.1 < 32768 := by
  induction pages generalizing m with
  | nil => exact h
  | cons page pages ih =>
    exact ih (canonical_fillPage h (hp page List.mem_cons_self)) (fun q hq => hp q (List.mem_cons_of_mem _ hq))

/-! ### Words written in one entry -/

/-- From s to t words of entry i are written, and nothing else. -/
structure KnotsWritten (s t : State) (i : EntryIndex) : Prop where
  frame : t = { s with memory := t.memory }
  canonical : (∀ page ∈ s.entries[i].pages, page < 512) → MemoryCanonical s → MemoryCanonical t
  others : s.memory.wf = true → t.memory.wf = true ∧
    ∀ a, a / 64 ∉ s.entries[i].pages → t.memory.read a = s.memory.read a

namespace KnotsWritten

variable {s t u : State} {i : EntryIndex}

theorem entries (h : KnotsWritten s t i) : t.entries = s.entries := by rw [h.frame]

theorem refl (s : State) (i : EntryIndex) : KnotsWritten s s i := ⟨rfl, fun _ h => h, fun h => ⟨h, fun _ _ => rfl⟩⟩

theorem trans (h : KnotsWritten s t i) (h' : KnotsWritten t u i) : KnotsWritten s u i := by
  have he := h.entries
  refine ⟨?_, ?_, ?_⟩
  · rw [h'.frame, h.frame]
  · intro hp hc
    exact h'.canonical (by rw [he]; exact hp) (h.canonical hp hc)
  · intro hwf
    obtain ⟨hwf', hread⟩ := h.others hwf
    obtain ⟨hwf'', hread'⟩ := h'.others hwf'
    rw [he] at hread'
    exact ⟨hwf'', fun a ha => (hread' a ha).trans (hread a ha)⟩

theorem putKnot (s : State) (i : EntryIndex) (j : Nat) (w : KnotWord) : KnotsWritten s (s.putKnot i j w) i := by
  refine ⟨putKnot_frame s i j w, ?_, fun hwf => ⟨State.putKnot_wf s i j w hwf, ?_⟩⟩
  · intro hp hc
    unfold State.putKnot
    split
    · next a ha =>
      have hpage := hp _ (page_of_knotAddress ha)
      exact canonical_write hc (by omega)
    · exact hc
  · intro a ha
    exact putKnot_read_other w hwf (fun hj => ha (page_of_knotAddress hj))

theorem writeKnots (vs : List Knot) (s : State) (i : EntryIndex) (first : Nat) :
    KnotsWritten s (s.writeKnots i first vs) i := by
  induction vs generalizing s first with
  | nil => exact refl s i
  | cons v vs ih => exact (putKnot s i first _).trans (ih _ _)

theorem upsetKnots (us : List LoadUpset) (s : State) (i : EntryIndex) : KnotsWritten s (s.upsetKnots i us) i := by
  unfold State.upsetKnots
  induction us generalizing s with
  | nil => exact refl s i
  | cons u us ih => exact (putKnot s i _ _).trans (ih _)

theorem loadKnots (s : State) (i : EntryIndex) (f : SlotFields) (g : Geometry) (upsets : List LoadUpset) :
    KnotsWritten s (s.loadKnots i f g upsets) i :=
  (writeKnots _ s i 0).trans (upsetKnots upsets _ i)

theorem storeLaw (h : KnotsWritten s t i) (hs : StoreLaw s) : StoreLaw t := by
  have he := h.entries
  have hf : t.freePages = s.freePages := by rw [h.frame]
  obtain ⟨hcanon, hperm, hfree⟩ := id hs
  refine ⟨h.canonical (fun _ hp => page_lt hs hp) hcanon, ?_, ?_⟩
  · rw [pagesHeld_congr hf (fun i => by rw [he])]
    exact hperm
  · rw [he]
    exact hfree

/-- Another entry's words stand. -/
theorem read_other (h : KnotsWritten s t i) (hs : StoreLaw s) {k : EntryIndex} (hk : k ≠ i) {j a : Nat}
    (ha : s.knotAddress k j = some a) : t.memory.read a = s.memory.read a :=
  (h.others hs.1.1).2 a (page_not_others hs hk.symm (page_of_knotAddress ha))

end KnotsWritten

/-! ### What a step does to the store -/

/-- The entry's knots have been checked: STAGED, LIVE or DRAINING (R34). -/
def Checked (e : Entry) : Prop := e.state = .staged ∨ e.state = .live ∨ e.state = .draining

theorem Checked.not_loading {e : Entry} (h : Checked e) : e.state ≠ .loading := by
  rcases h with h | h | h <;> (rw [h]; exact EntryState.noConfusion)

/-- The command is neither a stored fault nor a device reset. -/
def Spares (c : Option Instr) : Prop :=
  (∀ page offset u, c ≠ some (.parityFault page offset u)) ∧ ∀ l st, c ≠ some (.deviceReset l st)

/-- The words of the entries checked in s stand in t. -/
def WordsStand (s t : State) : Prop :=
  ∀ i : EntryIndex, Checked s.entries[i] → ∀ j a, s.knotAddress i j = some a → t.memory.read a = s.memory.read a

/-- What a step of command c does to the Knot Memory, its pages and the alert set, from s to t. -/
structure StoreStep (c : Option Instr) (s t : State) : Prop where
  store : StoreLaw s → StoreLaw t
  alerts : AlertLaw s → AlertLaw t
  words : Spares c → StoreLaw s → RecordLaw s → WordsStand s t

namespace StoreStep

variable {c : Option Instr} {s t u : State}

theorem of_kept (h : PagesKept s t) : StoreStep c s t :=
  ⟨h.storeLaw, h.alerts, fun _ _ _ _ _ _ _ _ => by rw [h.memory]⟩

theorem refl (s : State) : StoreStep c s s := of_kept (PagesKept.refl s)

theorem kept_right (h : StoreStep c s u) (h' : PagesKept u t) : StoreStep c s t := by
  refine ⟨h'.storeLaw ∘ h.store, h'.alerts ∘ h.alerts, fun hc hs hr => ?_⟩
  unfold WordsStand
  rw [h'.memory]
  exact h.words hc hs hr

theorem respond (h : StoreStep c s t) (tag code : Byte) (r : Result) (d : List Byte) :
    StoreStep c s (t.respond tag code r d) := h.kept_right (PagesKept.answer t tag code r d)

/-- A step is judged by the records, the words and the pages that it starts from. -/
theorem congr_left (he : u.entries = s.entries) (hv : u.views = s.views) (hl : u.lists = s.lists)
    (hp : u.ports = s.ports) (heng : u.engine = s.engine) (hslots : u.slots = s.slots) (hm : u.memory = s.memory)
    (hf : u.freePages = s.freePages) (ha : u.alerts = s.alerts) (h : StoreStep c u t) : StoreStep c s t := by
  have hkept : PagesKept s u := PagesKept.of_same he hf hm ha
  refine ⟨h.store ∘ hkept.storeLaw, h.alerts ∘ hkept.alerts, fun hc hs hr => ?_⟩
  have hrec : RecordLaw u := recordLaw_congr he hv hl hp (engineLaw_congr he hv hl heng hslots) hr
  have hwords := h.words hc (hkept.storeLaw hs) hrec
  unfold WordsStand State.knotAddress at hwords ⊢
  rwa [he, hm] at hwords

/-- Words of a LOADING entry written. -/
theorem of_knotsWritten {i : EntryIndex} (h : KnotsWritten s t i)
    (hst : RecordLaw s → s.entries[i].state = .loading) : StoreStep c s t := by
  refine ⟨h.storeLaw, fun ha => ?_, fun _ hs hr k hk j a hj => ?_⟩
  · rw [h.frame]
    exact ha
  · refine h.read_other hs ?_ hj
    rintro rfl
    exact hk.not_loading (hst hr)

end StoreStep

/-! ### Grants (R6, R27, R28) -/

section Grants

variable {s : State} {i : EntryIndex} {pr : Profile}

theorem granted_storeLaw (hs : StoreLaw s) (hi : s.entries[i].state = .free) : StoreLaw (granted s i pr) := by
  obtain ⟨hcanon, hperm, hfree⟩ := id hs
  have hsame := granted_entry_same s i pr
  have hlist : (granted s i pr).freePages = s.freePages.drop pr.geometry.pageCount := by rw [granted_frame]
  have hothers : othersPages (granted s i pr) i = othersPages s i := othersPages_set (by rw [granted_frame])
  refine ⟨?_, ?_, ?_⟩
  · unfold MemoryCanonical
    rw [granted_memory]
    exact canonical_fillPages _ hcanon (fun p hp => freePage_lt hs (List.mem_of_mem_take hp))
  · have hheld := pagesHeld_perm (granted s i pr) i
    have hwas := pagesHeld_perm s i
    rw [hfree i hi] at hwas
    rw [hsame, hlist, hothers] at hheld
    refine hheld.trans (List.Perm.trans ?_ (hwas.symm.trans hperm))
    rw [List.nil_append, ← List.append_assoc]
    refine List.Perm.append_right _ (List.perm_append_comm.trans ?_)
    exact List.Perm.of_eq (List.take_append_drop _ _)
  · intro j hj
    by_cases hji : j = i
    · subst hji
      rw [hsame] at hj
      cases hj
    · rw [granted_entry_other _ _ _ _ hji] at hj ⊢
      exact hfree j hj

theorem granted_alertLaw (h : AlertLaw s) : AlertLaw (granted s i pr) := by
  rw [granted_frame]
  unfold AlertLaw
  dsimp only
  split
  · exact insertAlert_sorted h
  · exact h

/-- A grant writes no word of an entry's pages. -/
theorem granted_read_held (hs : StoreLaw s) {k : EntryIndex} {a : Nat} (ha : a / 64 ∈ s.entries[k].pages) :
    (granted s i pr).memory.read a = s.memory.read a :=
  granted_read_other hs.1.1 (fun hf => page_not_free hs ha (List.mem_of_mem_take hf))

end Grants

namespace StoreStep

variable {c : Option Instr} {s t u : State}

theorem of_granted {i : EntryIndex} {pr : Profile} (hi : s.entries[i].state = .free) :
    StoreStep c s (granted s i pr) :=
  ⟨fun hs => granted_storeLaw hs hi, granted_alertLaw,
    fun _ hs _ _ _ _ _ ha => granted_read_held hs (page_of_knotAddress ha)⟩

/-- A load begun after a step that leaves the entries checked before it. -/
theorem beginLoad_right (h : StoreStep c s u)
    (he : RecordLaw s → ∀ i : EntryIndex, Checked s.entries[i] → u.entries[i] = s.entries[i]) (n : Stream) :
    StoreStep c s (u.beginLoad n) := by
  rcases beginLoad_cases u n with heq | ⟨i, f, g, fmt, -, hfree, -, -, heq⟩
  · rw [heq]
    exact h.kept_right (PagesKept.of_same rfl rfl rfl rfl)
  · rw [heq]
    refine StoreStep.kept_right (u := granted u i (slotProfile n f g fmt)) ?_ (PagesKept.of_same rfl rfl rfl rfl)
    refine ⟨fun hs => granted_storeLaw (h.store hs) hfree, fun ha => granted_alertLaw (h.alerts ha), ?_⟩
    intro hc hs hr k hk j a ha
    rw [granted_read_held (h.store hs) (k := k), h.words hc hs hr k hk j a ha]
    rw [he hr k hk]
    exact page_of_knotAddress ha

/-! ### Requests that write words -/

theorem create (tag columns rows channels format : Byte) (label : Word) (s : State) :
    StoreStep c s (reqCreate tag columns rows channels format label s) := by
  unfold reqCreate
  split
  · next g f _ _ =>
    rcases allocate_cases s { origin := .host, geometry := g, format := f, label := label } with
      ⟨r, ha⟩ | ⟨i, hi, -, ha⟩
    · rw [ha]
      exact (refl s).respond tag _ _ _
    · rw [ha]
      exact (of_granted (lowestFree_spec hi)).respond tag _ _ _
  · exact (refl s).respond tag _ _ _

theorem writeKnots (tag : Byte) (h : RawHandle) (first : Word) (count : Byte) (ks : List Word) (s : State) :
    StoreStep c s (reqWriteKnots tag h first count ks s) := by
  have hanswer : ∀ r, StoreStep c s (s.respond tag 0x14 r []) := fun r => (refl s).respond tag _ r _
  unfold reqWriteKnots
  split
  · exact hanswer _
  · split
    · exact hanswer _
    · split
      · exact hanswer _
      · split
        · exact hanswer _
        · split
          · exact hanswer _
          · next hst =>
            split
            · exact hanswer _
            · exact (of_knotsWritten (KnotsWritten.writeKnots _ s _ _) (fun _ => not_not.1 hst)).respond tag _ _ _

theorem restoreBaseline (tag slot : Byte) (s : State) : StoreStep c s (reqRestoreBaseline tag slot s) := by
  unfold reqRestoreBaseline
  split
  · exact (refl s).respond tag _ _ _
  · next n _ =>
    split
    · exact (refl s).respond tag _ _ _
    · exact (refl s).respond tag _ _ _
    · next f g fmt _ =>
      rcases allocate_cases s (slotProfile n f g fmt) with ⟨r, ha⟩ | ⟨i, hi, -, ha⟩
      · rw [ha]
        exact (refl s).respond tag _ _ _
      · rw [ha]
        exact (of_granted (lowestFree_spec hi)).kept_right (PagesKept.startJob _ tag _ _)

/-! ### Request writes -/

theorem selectWindow {w : Window} {acks : List Bool} (h : StoreStep c (s.selectWindow w acks) t) : StoreStep c s t :=
  congr_left (u := s.selectWindow w acks) rfl rfl rfl rfl rfl rfl rfl rfl rfl h

theorem windowSelected (s : State) (w : Window) (acks : List Bool) : StoreStep c s (s.selectWindow w acks) :=
  of_kept (PagesKept.windowSelected s w acks)

theorem onRequest {f : State → State} (len : Nat) (hf : ∀ u : State, StoreStep c u (f u)) :
    StoreStep c s (s.onRequest len f) := by
  unfold State.onRequest
  split
  · exact selectWindow (hf _)
  · exact windowSelected s _ _
  · exact windowSelected s _ _

/-- A request row that writes no word. -/
theorem onKept {f : State → State} (len : Nat) (hf : ∀ u : State, PagesKept u (f u)) :
    StoreStep c s (s.onRequest len f) := onRequest len (fun u => of_kept (hf u))

theorem onMessage {f : State → State} (message : List Byte) (hf : ∀ u : State, StoreStep c u (f u)) :
    StoreStep c s (s.onMessage message f) := by
  unfold State.onMessage
  split
  · exact selectWindow (hf _)
  · exact windowSelected s _ _
  · exact windowSelected s _ _

theorem runRequest (tag : Byte) (r : Request) (s : State) : StoreStep c s (runRequest tag r s) := by
  cases r with
  | create cols rows ch f l => exact create tag cols rows ch f l s
  | delete h => exact of_kept (PagesKept.delete tag h s)
  | queryProfile h => exact of_kept (PagesKept.queryProfile tag h s)
  | queryStore => exact (refl s).respond tag _ _ _
  | writeKnots h first count ks => exact writeKnots tag h first count ks s
  | readKnots h first count => exact of_kept (PagesKept.readKnots tag h first count s)
  | finish h crc => exact of_kept (PagesKept.finish tag h crc s)
  | verify h => exact of_kept (PagesKept.verify tag h s)
  | configureView n cols rows ch f => exact of_kept (PagesKept.configureView tag n cols rows ch f s)
  | queryView n => exact of_kept (PagesKept.queryView tag n s)
  | attach n h k p => exact of_kept (PagesKept.attach tag n h k p s)
  | detach n h => exact of_kept (PagesKept.detach tag n h s)
  | move n h k p => exact of_kept (PagesKept.move tag n h k p s)
  | commit m kind n => exact of_kept (PagesKept.commit tag m kind n s)
  | withdraw m => exact of_kept (PagesKept.withdraw tag m s)
  | discard m => exact of_kept (PagesKept.discardLists tag m s)
  | queryEdits n => exact of_kept (PagesKept.queryEdits tag n s)
  | point m => exact of_kept (PagesKept.point tag m s)
  | setPoints n src pol pre => exact of_kept (PagesKept.setPoints tag n src pol pre s)
  | clearCounts m => exact of_kept (PagesKept.clearCounts tag m s)
  | queryPoints => exact (refl s).respond tag _ _ _
  | setPort p e l => exact of_kept (PagesKept.setPortRequest tag p e l s)
  | queryPort p => exact of_kept (PagesKept.queryPort tag p s)
  | programBaseline n h k p => exact of_kept (PagesKept.programBaseline tag n h k p s)
  | restoreBaseline n => exact restoreBaseline tag n s
  | querySlot n => exact of_kept (PagesKept.querySlot tag n s)
  | setGroup a e k => exact of_kept (PagesKept.setGroup tag a e k s)
  | setAlerts m w => exact of_kept (PagesKept.setAlerts tag m w s)
  | readAlerts => exact of_kept (PagesKept.readAlerts tag s)

theorem writeRequest (s : State) (message : List Byte) : StoreStep c s (s.writeRequest message) := by
  unfold State.writeRequest
  split
  · exact windowSelected s _ _
  · refine onMessage _ (fun u => ?_)
    unfold State.answerJudged
    split
    · exact (refl u).respond _ _ _ _
    · exact (refl u).respond _ _ _ _
    · exact runRequest _ _ u

theorem primaryWrite (s : State) (bytes : List Byte) : StoreStep c s (s.primaryWrite bytes) := by
  unfold State.primaryWrite
  split
  · exact refl s
  · split
    · exact writeRequest s _
    · split
      · exact windowSelected s _ _
      · split
        · split
          · exact windowSelected s _ _
          · exact selectWindow (of_kept (PagesKept.takeAbort _))
        · split
          · exact windowSelected s _ _
          · exact of_kept (PagesKept.of_same rfl rfl rfl rfl)

end StoreStep

/-! ### Outcomes -/

/-- Whatever state the outcome gives, the step to it is a step of the store. -/
def OutcomeStores (c : Option Instr) (s : State) (o : Host.Outcome State Fault Refusal) : Prop :=
  ∀ t, o = .next t → StoreStep c s t

section Outcomes

variable {c : Option Instr} {s t : State}

theorem StoreStep.outcome (h : StoreStep c s t) : OutcomeStores c s (.next t) := by
  intro u hu
  cases hu
  exact h

theorem PagesKept.outcome (h : PagesKept s t) : OutcomeStores c s (.next t) := (StoreStep.of_kept h).outcome

namespace OutcomeStores

theorem finishComplete : OutcomeStores c s (execFinishComplete s) := by
  unfold execFinishComplete
  split
  · exact (PagesKept.endFinish _ _ _ s).outcome
  · exact (PagesKept.refl s).outcome

theorem verifyComplete : OutcomeStores c s (execVerifyComplete s) := by
  unfold execVerifyComplete
  split
  · exact (PagesKept.endVerify _ _ s).outcome
  · exact (PagesKept.refl s).outcome

theorem scanEnd : OutcomeStores c s (execScanEnd s) := by
  unfold execScanEnd
  split
  · exact (PagesKept.endScan _ _ _ _ _ s).outcome
  · exact (PagesKept.refl s).outcome

theorem programWriteEnd (recorded : Bool) : OutcomeStores c s (execProgramWriteEnd recorded s) := by
  unfold execProgramWriteEnd
  split
  · exact (PagesKept.endWrite _ _ _ _ _ _ _ s).outcome
  · exact (PagesKept.refl s).outcome

theorem programVerifyEnd (writesTook recorded : Bool) :
    OutcomeStores c s (execProgramVerifyEnd writesTook recorded s) := by
  unfold execProgramVerifyEnd
  split
  · exact (PagesKept.endProgram _ _ _ _ _ s).outcome
  · exact (PagesKept.refl s).outcome

/-- A restore's knots are written while its entry is LOADING; then the entry is STAGED or freed (R159). -/
theorem restoreComplete (upsets : List LoadUpset) : OutcomeStores c s (execRestoreComplete upsets s) := by
  unfold execRestoreComplete
  split
  · next tag n i he =>
    refine StoreStep.outcome ?_
    unfold endRestore
    split
    · next f g _ _ =>
      have hload : StoreStep c s (s.loadKnots i f g upsets) :=
        StoreStep.of_knotsWritten (KnotsWritten.loadKnots s i f g upsets) (StepKeeps.restoring_loading he)
      refine hload.kept_right ?_
      generalize s.loadKnots i f g upsets = u
      dsimp only
      split
      · exact (PagesKept.freeEntry u i).endJob _ _ _ _
      · split
        · exact (PagesKept.setEntry (e := { u.entries[i] with state := .staged, checkValue := some f.crc }) rfl
            nofun).endJob _ _ _ _
        · exact (PagesKept.freeEntry u i).endJob _ _ _ _
    · exact StoreStep.refl s
  · exact (PagesKept.refl s).outcome

theorem groupWrite (address : BitVec 7) (others : OtherAcknowledgers) (bytes : List Byte) :
    OutcomeStores c s (execGroupWrite address others bytes s) := by
  have hacks : ∀ acks, PagesKept s { s with acks := acks } := fun _ => PagesKept.of_same rfl rfl rfl rfl
  unfold execGroupWrite
  split
  · split
    · exact (hacks _).outcome
    · split
      · exact ((hacks _).trans (PagesKept.closeGroupWrite _ _)).outcome
      · exact (hacks _).outcome
  · exact (PagesKept.refl s).outcome

theorem boundaryEdge (line : Stream) (level : LineLevel) : OutcomeStores c s (execBoundaryEdge line level s) := by
  unfold execBoundaryEdge
  split
  · exact (PagesKept.refl s).outcome
  · have hline : PagesKept s { s with lines := s.lines.set line level } := PagesKept.of_same rfl rfl rfl rfl
    exact (hline.trans (PagesKept.foldl (fun u n => PagesKept.pointed (pointed_countEdge u n)) _ _)).outcome

theorem grant : OutcomeStores c s (execGrant s) := by
  unfold execGrant
  split
  · next p _ _ =>
    split
    · exact ((PagesKept.modPort s p Port.grantHead).trans (PagesKept.withDatapath _ _ p)).outcome
    · exact (PagesKept.refl s).outcome
  · exact (PagesKept.refl s).outcome

theorem handover : OutcomeStores c s (execHandover s) := by
  unfold execHandover
  split
  · exact (PagesKept.refl s).outcome
  · split
    · exact (PagesKept.refl s).outcome
    · split
      · exact (PagesKept.handOver s _ _ _ _).outcome
      · exact (PagesKept.refl s).outcome

theorem faultReport : OutcomeStores c s (execFaultReport s) := by
  unfold execFaultReport
  split
  · exact (PagesKept.refl s).outcome
  · split
    · exact (PagesKept.refl s).outcome
    · split
      · exact (PagesKept.refl s).outcome
      · exact (PagesKept.reportFault s _ _ _).outcome

theorem stallExpiry (p : Stream) : OutcomeStores c s (execStallExpiry p s) := by
  unfold execStallExpiry
  split
  · exact (PagesKept.expire s p).outcome
  · exact (PagesKept.refl s).outcome

/-! ### Stored faults, the device reset, the start-up load (R45, R161, R162) -/

/-- A stored fault writes a word of the part. -/
theorem parityFault (page : Fin 512) (offset : Fin 64) (upset : WordUpset) :
    OutcomeStores (some (.parityFault page offset upset)) s (execParityFault page offset upset s) := by
  refine StoreStep.outcome ⟨?_, id, fun hc => absurd rfl (hc.1 page offset upset)⟩
  rintro ⟨hcanon, haccount⟩
  exact ⟨canonical_write hcanon (by omega), haccount⟩

theorem storeLaw_blocksReset (s : State) (moment : ResetMoment) (straps : BitVec 2) :
    StoreLaw (blocksReset s moment straps) := by
  have hfree : (blocksReset s moment straps).freePages = State.reset.freePages := by
    rw [blocksReset_freePages, State.reset, afterReset_freePages]
  have hentries : (blocksReset s moment straps).entries = State.reset.entries := by
    simp only [blocksReset, State.reset, State.afterReset]
  exact (PagesKept.of_same hentries hfree rfl rfl).storeLaw storeLaw_reset

theorem deviceReset (moment : ResetMoment) (straps : BitVec 2) :
    OutcomeStores (some (.deviceReset moment straps)) s (execDeviceReset moment straps s) := by
  have hload : StoreStep (some (.deviceReset moment straps)) (blocksReset s moment straps)
      ((blocksReset s moment straps).beginLoad 0) :=
    (StoreStep.refl _).beginLoad_right (fun _ _ _ => rfl) 0
  refine StoreStep.outcome ⟨fun _ => hload.store (storeLaw_blocksReset s moment straps),
    fun _ => hload.alerts List.Pairwise.nil, fun hc => absurd rfl (hc.2 moment straps)⟩

/-- The load of slot n completed: words written in its LOADING entry, which is then LIVE or freed. -/
theorem completeLoad {n : Stream} {entry : Option EntryIndex} (he : s.engine = .starting n entry)
    (upsets : List LoadUpset) : StoreStep c s (s.completeLoad n entry upsets) := by
  cases hread : s.slots[n].reading with
  | blank =>
    rw [completeLoad_blank hread]
    exact StoreStep.refl s
  | spoiled why =>
    rw [completeLoad_spoiled hread]
    exact StoreStep.of_kept (PagesKept.raise s _)
  | programmed f g fmt =>
    cases entry with
    | none =>
      unfold State.completeLoad
      rw [hread]
      exact StoreStep.of_kept (PagesKept.leaveEmpty s n g fmt)
    | some i =>
      have hloading : RecordLaw s → s.entries[i].state = .loading := by
        intro hr
        obtain ⟨-, -, hentry⟩ := engineLaw_starting he (recordLaw_iff.1 hr).2
        exact (hentry i rfl).1
      have hload : StoreStep c s (s.loadKnots i f g upsets) :=
        StoreStep.of_knotsWritten (KnotsWritten.loadKnots s i f g upsets) hloading
      by_cases hc : (s.loadKnots i f g upsets).checkEntry i = .crc f.crc
      · rw [completeLoad_good hread hc]
        exact hload.kept_right (PagesKept.attachBaseline _ n i f g fmt)
      · rw [completeLoad_bad hread hc]
        exact hload.kept_right ((PagesKept.freeEntry _ i).trans (PagesKept.leaveEmpty _ n g fmt))

theorem slotLoad (slot : Stream) (upsets : List LoadUpset) : OutcomeStores c s (execSlotLoad slot upsets s) := by
  unfold execSlotLoad
  split
  · next n entry he =>
    have hload : StoreStep c s (s.completeLoad n entry upsets) := completeLoad he upsets
    split
    · split
      · exact (hload.kept_right (PagesKept.started _)).outcome
      · refine (hload.beginLoad_right (fun hr i hi => ?_) (n + 1)).outcome
        rcases (loadCompletes_of_recordLaw he hr upsets).entries i with heq | ⟨hst, -⟩
        · exact heq
        · exact absurd hst hi.not_loading
    · exact (PagesKept.refl s).outcome
  · exact (PagesKept.refl s).outcome

/-! ### Every command -/

theorem received (s : State) (p : Stream) (bytes : List Byte) : OutcomeStores c s (.next (s.receive p bytes)) :=
  (PagesKept.receive s p bytes).outcome

/-- What each command does to the store, row by row. -/
theorem exec (r : Instr) (s : State) : OutcomeStores (some r) s (exec r s) := by
  cases r with
  | create tag cols rows ch f l => exact (StoreStep.onRequest 9 (StoreStep.create tag cols rows ch f l)).outcome
  | delete tag h => exact (StoreStep.onKept 5 (PagesKept.delete tag h)).outcome
  | queryProfile tag h => exact (StoreStep.onKept 5 (PagesKept.queryProfile tag h)).outcome
  | queryStore tag => exact (StoreStep.onKept 3 (fun u => PagesKept.answer u tag _ _ _)).outcome
  | writeKnots tag h first count ks =>
    exact (StoreStep.onMessage _ (StoreStep.writeKnots tag h first count ks)).outcome
  | readKnots tag h first count => exact (StoreStep.onKept 8 (PagesKept.readKnots tag h first count)).outcome
  | finish tag h crc => exact (StoreStep.onKept 7 (PagesKept.finish tag h crc)).outcome
  | finishComplete => exact finishComplete
  | verify tag h => exact (StoreStep.onKept 5 (PagesKept.verify tag h)).outcome
  | verifyComplete => exact verifyComplete
  | configureView tag n cols rows ch f =>
    exact (StoreStep.onKept 8 (PagesKept.configureView tag n cols rows ch f)).outcome
  | queryView tag n => exact (StoreStep.onKept 4 (PagesKept.queryView tag n)).outcome
  | attach tag n h k p => exact (StoreStep.onKept 10 (PagesKept.attach tag n h k p)).outcome
  | detach tag n h => exact (StoreStep.onKept 6 (PagesKept.detach tag n h)).outcome
  | move tag n h k p => exact (StoreStep.onKept 10 (PagesKept.move tag n h k p)).outcome
  | commit tag m kind n => exact (StoreStep.onKept 7 (PagesKept.commit tag m kind n)).outcome
  | withdraw tag m => exact (StoreStep.onKept 4 (PagesKept.withdraw tag m)).outcome
  | discard tag m => exact (StoreStep.onKept 4 (PagesKept.discardLists tag m)).outcome
  | queryEdits tag n => exact (StoreStep.onKept 4 (PagesKept.queryEdits tag n)).outcome
  | point tag m => exact (StoreStep.onKept 4 (PagesKept.point tag m)).outcome
  | setPoints tag n src pol pre => exact (StoreStep.onKept 7 (PagesKept.setPoints tag n src pol pre)).outcome
  | clearCounts tag m => exact (StoreStep.onKept 4 (PagesKept.clearCounts tag m)).outcome
  | queryPoints tag => exact (StoreStep.onKept 3 (fun u => PagesKept.answer u tag _ _ _)).outcome
  | setPort tag p e l => exact (StoreStep.onKept 6 (PagesKept.setPortRequest tag p e l)).outcome
  | queryPort tag p => exact (StoreStep.onKept 4 (PagesKept.queryPort tag p)).outcome
  | programBaseline tag n h k p => exact (StoreStep.onKept 10 (PagesKept.programBaseline tag n h k p)).outcome
  | scanEnd => exact scanEnd
  | programWriteEnd recorded => exact programWriteEnd recorded
  | programVerifyEnd writesTook recorded => exact programVerifyEnd writesTook recorded
  | restoreBaseline tag n => exact (StoreStep.onRequest 4 (StoreStep.restoreBaseline tag n)).outcome
  | restoreComplete upsets => exact restoreComplete upsets
  | querySlot tag n => exact (StoreStep.onKept 4 (PagesKept.querySlot tag n)).outcome
  | setGroup tag a e k => exact (StoreStep.onKept 6 (PagesKept.setGroup tag a e k)).outcome
  | setAlerts tag m w => exact (StoreStep.onKept 6 (PagesKept.setAlerts tag m w)).outcome
  | readAlerts tag => exact (StoreStep.onKept 3 (PagesKept.readAlerts tag)).outcome
  | unknownRequest message => exact (StoreStep.writeRequest s message).outcome
  | requestFormatError message => exact (StoreStep.writeRequest s message).outcome
  | busyNack message => exact (StoreStep.writeRequest s message).outcome
  | windowSelect selector extra => exact (StoreStep.primaryWrite s _).outcome
  | abort value extra => exact (StoreStep.primaryWrite s _).outcome
  | groupWrite address others bytes => exact groupWrite address others bytes
  | boundaryEdge line level => exact boundaryEdge line level
  | lookup p tag key first count => exact received s p _
  | credit p n => exact received s p _
  | cancel p tag => exact received s p _
  | linkReset p => exact received s p _
  | badMessage p bytes => exact received s p _
  | linkMessageHeld p m => exact received s p _
  | grant => exact grant
  | handover => exact handover
  | faultReport => exact faultReport
  | stallExpiry p => exact stallExpiry p
  | deviceReset moment straps => exact deviceReset moment straps
  | slotLoad slot upsets => exact slotLoad slot upsets
  | parityFault page offset upset => exact parityFault page offset upset
  | idleByte p => exact received s p _

end OutcomeStores

end Outcomes

/-- What one step does to the store, whichever command it takes. -/
theorem StoreStep.of_step {s t : State} (h : step s = .next t) : StoreStep s.pending.head? s t := by
  unfold step at h
  cases hp : s.pending with
  | nil =>
    rw [hp] at h
    cases h
    exact StoreStep.of_kept (PagesKept.tick s)
  | cons r rest =>
    rw [hp] at h
    exact congr_left (u := { s with pending := rest }) rfl rfl rfl rfl rfl rfl rfl rfl rfl
      (OutcomeStores.exec r _ t h)

/-- Settles O6: the laws by what a step does to the store, the counts by the laws. -/
theorem stepKeepsPagesAndAlerts : Obligations.StepKeepsPagesAndAlerts := by
  unfold Obligations.StepKeepsPagesAndAlerts
  refine ⟨⟨?_, fun s hs => pages_add_up hs⟩, ?_, fun s hs => alerts_length_le hs⟩
  · intro s t hs hstep
    exact (StoreStep.of_step hstep).store hs
  · intro s t hs hstep
    exact (StoreStep.of_step hstep).alerts hs

/-- Settles O12: a word is written in a LOADING entry or in free pages, and neither holds a checked entry's knots. -/
theorem noWriteReachesCheckedKnots : Obligations.NoWriteReachesCheckedKnots := by
  unfold Obligations.NoWriteReachesCheckedKnots
  intro s t i j a hstore hrecord hstep hchecked hfault hreset haddress
  exact (StoreStep.of_step hstep).words ⟨hfault, hreset⟩ hstore hrecord i hchecked j a haddress

end Sys2Proof.KnotStore

/-! PROOFS. WRITE_KNOTS, READ_KNOTS, FINISH, VERIFY and the stored fault: what each does, check by check. -/

namespace Sys2Proof.KnotStore

open Sys2Proof Sys2Proof.Machine Sys2Proof.Safety Sys2Proof.ProfileTable

/-! ### Stored faults (R43, R45) -/

@[simp] theorem good_ofValue (v : Knot) : (KnotWord.ofValue v).good = true := by
  unfold KnotWord.good KnotWord.ofValue
  exact beq_self_eq_true _

theorem upset_value (w : KnotWord) (u : WordUpset) : (w.upset u).value = u.value := by
  unfold KnotWord.upset
  split <;> rfl

/-- A word struck agrees with its parity where the fault lets it and it held none before (R45). -/
theorem upset_good (w : KnotWord) (u : WordUpset) : (w.upset u).good = (u.agrees && w.good) := by
  unfold KnotWord.upset
  cases hagrees : u.agrees && w.good
  · simp [KnotWord.good]
  · simp

/-- Settles O21, by what a write of the struck word leaves to be read. -/
theorem parityFaultAltersOneWord : Obligations.ParityFaultAltersOneWord := by
  unfold Obligations.ParityFaultAltersOneWord
  intro s page offset u hwf
  refine ⟨_, rfl, rfl, ?_, ?_, fun a ha => Memory.read_write_other hwf ha⟩
  · dsimp only
    rw [Memory.read_write_same hwf, upset_value]
  · dsimp only
    rw [Memory.read_write_same hwf, upset_good]

section Requests

variable {s : State} {tag : Byte} {h : RawHandle} {first : Word} {count : Byte} {ks : List Word} {i : EntryIndex}

/-! ### WRITE_KNOTS (R31, R33, R34) -/

theorem reqWriteKnots_format (hlen : ks.length ≠ count.toNat ∨ 29 < ks.length) :
    reqWriteKnots tag h first count ks s = s.respond tag 0x14 .format [] := by
  unfold reqWriteKnots
  exact if_pos hlen

theorem reqWriteKnots_knot_range (hlen : ks.length = count.toNat) (hmax : ks.length ≤ 29)
    (hks : ∃ k ∈ ks, 4096 ≤ k.toNat) : reqWriteKnots tag h first count ks s = s.respond tag 0x14 .range [] := by
  unfold reqWriteKnots
  rw [if_neg (by omega), if_pos (by simpa using hks)]

/-- WRITE_KNOTS of as many knots as it says, each in range, on a handle that names entry i: the checks left (R33). -/
theorem reqWriteKnots_named (hlen : ks.length = count.toNat) (hmax : ks.length ≤ 29) (hks : ∀ k ∈ ks, k.toNat < 4096)
    (hc : s.checkHandle h = .ok i) : reqWriteKnots tag h first count ks s =
      if count.toNat < 1 ∨ 24 < count.toNat then s.respond tag 0x14 .range []
      else if s.entries[i].state ≠ .loading then s.respond tag 0x14 .state []
      else if s.entries[i].knotCount < first.toNat + count.toNat then s.respond tag 0x14 .range []
      else (s.writeKnots i first.toNat (ks.map (fun k => BitVec.ofNat 12 k.toNat))).respond tag 0x14 .ok
        (wordBytes first ++ [count]) := by
  have hany : ¬ ks.any (fun k => 4096 ≤ k.toNat) = true := by simpa using hks
  unfold reqWriteKnots
  rw [if_neg (by omega), if_neg hany, hc]

section Named

variable (hlen : ks.length = count.toNat) (hks : ∀ k ∈ ks, k.toNat < 4096) (hc : s.checkHandle h = .ok i)
include hlen hks hc

theorem reqWriteKnots_count (hmax : ks.length ≤ 29) (hcount : count.toNat = 0 ∨ 24 < count.toNat) :
    reqWriteKnots tag h first count ks s = s.respond tag 0x14 .range [] := by
  rw [reqWriteKnots_named hlen hmax hks hc, if_pos (by omega)]

theorem reqWriteKnots_state (hmin : 1 ≤ count.toNat) (hmax : count.toNat ≤ 24) (hst : s.entries[i].state ≠ .loading) :
    reqWriteKnots tag h first count ks s = s.respond tag 0x14 .state [] := by
  rw [reqWriteKnots_named hlen (by omega) hks hc, if_neg (by omega), if_pos hst]

theorem reqWriteKnots_run_range (hmin : 1 ≤ count.toNat) (hmax : count.toNat ≤ 24)
    (hst : s.entries[i].state = .loading) (hend : s.entries[i].knotCount < first.toNat + count.toNat) :
    reqWriteKnots tag h first count ks s = s.respond tag 0x14 .range [] := by
  rw [reqWriteKnots_named hlen (by omega) hks hc, if_neg (by omega), if_neg (not_not.2 hst), if_pos hend]

/-- WRITE_KNOTS past every check. -/
theorem reqWriteKnots_ok (hmin : 1 ≤ count.toNat) (hmax : count.toNat ≤ 24)
    (hst : s.entries[i].state = .loading) (hend : first.toNat + count.toNat ≤ s.entries[i].knotCount) :
    reqWriteKnots tag h first count ks s =
      (s.writeKnots i first.toNat (ks.map (fun k => BitVec.ofNat 12 k.toNat))).respond tag 0x14 .ok
        (wordBytes first ++ [count]) := by
  rw [reqWriteKnots_named hlen (by omega) hks hc, if_neg (by omega), if_neg (not_not.2 hst), if_neg (by omega)]

end Named

/-! ### READ_KNOTS (R35, R36) -/

theorem reqReadKnots_count (hc : s.checkHandle h = .ok i) (hcount : count.toNat = 0 ∨ 24 < count.toNat) :
    reqReadKnots tag h first count s = s.respond tag 0x15 .range [] := by
  unfold reqReadKnots
  rw [hc]
  exact if_pos (by omega)

section InRange

variable (hc : s.checkHandle h = .ok i) (hmin : 1 ≤ count.toNat) (hmax : count.toNat ≤ 24)
include hc hmin hmax

theorem reqReadKnots_run_range (hend : s.entries[i].knotCount < first.toNat + count.toNat) :
    reqReadKnots tag h first count s = s.respond tag 0x15 .range [] := by
  unfold reqReadKnots
  rw [hc]
  dsimp only
  rw [if_neg (by omega), if_pos hend]

theorem reqReadKnots_good (hend : first.toNat + count.toNat ≤ s.entries[i].knotCount)
    (hgood : AllGood s i first.toNat count.toNat) :
    reqReadKnots tag h first count s = s.respond tag 0x15 .ok
      (wordBytes first ++ [count] ++ (knotValues s i first.toNat count.toNat).flatMap knotBytes) := by
  unfold reqReadKnots
  rw [hc]
  dsimp only
  rw [if_neg (by omega), if_neg (by omega), readRun_ok hgood]

theorem reqReadKnots_fault {j : Nat} (hend : first.toNat + count.toNat ≤ s.entries[i].knotCount)
    (hfault : FirstFault s i first.toNat count.toNat j) :
    reqReadKnots tag h first count s = (damageReported s i).respond tag 0x15 .parity (wordOfNat j) := by
  unfold reqReadKnots
  rw [hc]
  dsimp only
  rw [if_neg (by omega), if_neg (by omega), readRun_error hfault, ← reportDamage_eq]

end InRange

/-! ### FINISH and VERIFY (R39, R42) -/

theorem reqFinish_state {crc : Word} (hc : s.checkHandle h = .ok i) (hst : s.entries[i].state ≠ .loading) :
    reqFinish tag h crc s = s.respond tag 0x16 .state [] := by
  unfold reqFinish
  rw [hc]
  exact if_pos hst

theorem reqFinish_ok {crc : Word} (hc : s.checkHandle h = .ok i) (hst : s.entries[i].state = .loading) :
    reqFinish tag h crc s = s.startJob tag 0x16 (.finish i crc) := by
  unfold reqFinish
  rw [hc]
  exact if_neg (not_not.2 hst)

theorem reqVerify_state (hc : s.checkHandle h = .ok i) (hstaged : s.entries[i].state ≠ .staged)
    (hlive : s.entries[i].state ≠ .live) : reqVerify tag h s = s.respond tag 0x17 .state [] := by
  unfold reqVerify
  rw [hc]
  exact if_neg (fun hst => hst.elim hstaged hlive)

theorem reqVerify_ok (hc : s.checkHandle h = .ok i) (hst : s.entries[i].state = .staged ∨ s.entries[i].state = .live) :
    reqVerify tag h s = s.startJob tag 0x17 (.verify i) := by
  unfold reqVerify
  rw [hc]
  exact if_pos hst

end Requests

/-- A report of damage on s after the write of a request message, answered. -/
theorem answered_damageReported (s : State) (len : Nat) (i : EntryIndex) (tag code : Byte) (r : Result) (d : List Byte) :
    (damageReported (taken s len) i).respond tag code r d = answered (damageReported s i) len tag code r d := by
  have hentries : (taken s len).entries = s.entries := rfl
  unfold damageReported
  rw [hentries]
  split <;> rfl

/-! ### The ends of the checks (R40, R43) -/

section Checks

variable {s : State} {tag : Byte} {i : EntryIndex} {crc check : Word}

theorem exec_finishComplete (he : s.engine = .busy tag (.finish i crc)) :
    exec .finishComplete s = .next (endFinish tag i crc s) := by
  show execFinishComplete s = _
  unfold execFinishComplete
  rw [he]

theorem endFinish_ok (hc : s.checkEntry i = .crc crc) : endFinish tag i crc s =
    completed { s with entries := s.entries.set i { s.entries[i] with state := .staged, checkValue := some crc } }
      tag 0x16 .ok (wordBytes crc) := by
  unfold endFinish
  rw [hc]
  exact if_pos rfl

theorem endFinish_mismatch {c : Word} (hc : s.checkEntry i = .crc c) (hne : c ≠ crc) :
    endFinish tag i crc s = completed s tag 0x16 .checkMismatch (wordBytes c) := by
  unfold endFinish
  rw [hc]
  exact if_neg hne

theorem endFinish_fault {j : Nat} (hc : s.checkEntry i = .fault j) :
    endFinish tag i crc s = completed s tag 0x16 .parity (wordOfNat j) := by
  unfold endFinish
  rw [hc]
  rfl

theorem exec_verifyComplete (he : s.engine = .busy tag (.verify i)) :
    exec .verifyComplete s = .next (endVerify tag i s) := by
  show execVerifyComplete s = _
  unfold execVerifyComplete
  rw [he]

theorem endVerify_ok (hv : s.entries[i].checkValue = some check) (hc : s.checkEntry i = .crc check) :
    endVerify tag i s = completed s tag 0x17 .ok (wordBytes check) := by
  unfold endVerify
  rw [hc]
  exact if_pos hv

theorem endVerify_mismatch {c : Word} (hv : s.entries[i].checkValue = some check) (hc : s.checkEntry i = .crc c)
    (hne : c ≠ check) : endVerify tag i s =
      completed (damageReported s i) tag 0x17 .checkMismatch (wordBytes c ++ wordBytes check) := by
  have hno : ¬ s.entries[i].checkValue = some c := by
    rw [hv]
    exact fun e => hne (Option.some.inj e).symm
  unfold endVerify
  rw [hc]
  dsimp only
  rw [if_neg hno, hv, reportDamage_eq]
  rfl

theorem endVerify_fault {j : Nat} (hc : s.checkEntry i = .fault j) :
    endVerify tag i s = completed (damageReported s i) tag 0x17 .parity (wordOfNat j) := by
  unfold endVerify
  rw [hc, reportDamage_eq]
  rfl

end Checks

/-- Settles O17: the checks in order, and the words that a run of writes leaves to be read. -/
theorem writeKnotsStoresOrRefuses : Obligations.WriteKnotsStoresOrRefuses := by
  unfold Obligations.WriteKnotsStoresOrRefuses
  refine ⟨?_, ?_⟩
  · intro s tag h i first count ks hidle hwf hnames hst hnodup _ hmin hmax hlen hks hend
    have hok := reqWriteKnots_ok (s := taken s (8 + 2 * ks.length)) (tag := tag) (first := first) hlen hks
      (taken_checkHandle_ok hnames) hmin hmax hst hend
    refine ⟨_, (exec_writeKnots_idle hidle (by omega)).trans (congrArg _ hok), ?_, ?_, ?_⟩
    · rw [writeKnots_frame, hlen]
      rfl
    · intro k page hk hpage
      have haddress : s.knotAddress i (first.toNat + k) = some (64 * page + (first.toNat + k) % 64) := by
        rw [State.knotAddress, hpage]
        rfl
      have hk' : k < ks.length := by omega
      rw [respond_memory, writeKnots_read_same (s := taken s (8 + 2 * ks.length)) _ hwf hnodup (by simpa using hk')
        haddress]
      simp [hk', List.getD]
    · intro a ha
      exact writeKnots_read_other (s := taken s (8 + 2 * ks.length)) _ hwf
        (fun k hk => ha k (by rw [List.length_map] at hk; omega))
  · intro s tag h first count ks hidle
    refine ⟨?_, ?_, ?_⟩
    · intro hlen
      have hrun := onMessage_idle (encodeRequest tag (.writeKnots h first count ks))
        (reqWriteKnots tag h first count ks) hidle
      exact congrArg _ (hrun.trans (reqWriteKnots_format hlen))
    · intro hlen hmax hks
      exact (exec_writeKnots_idle hidle hmax).trans (congrArg _ (reqWriteKnots_knot_range hlen hmax hks))
    · intro hlen hmax hks
      rw [exec_writeKnots_idle hidle hmax]
      refine ⟨?_, ?_⟩
      · intro r hr
        exact congrArg _ (reqWriteKnots_error hlen (by omega) hks (taken_checkHandle_error hr))
      · intro i hnames
        have hc := taken_checkHandle_ok (len := 8 + 2 * ks.length) hnames
        exact ⟨fun hcount => congrArg _ (reqWriteKnots_count hlen hks hc hmax hcount),
          fun hmin hhigh hst => congrArg _ (reqWriteKnots_state hlen hks hc hmin hhigh hst),
          fun hmin hhigh hst hend => congrArg _ (reqWriteKnots_run_range hlen hks hc hmin hhigh hst hend)⟩

/-- Settles O18: the checks in order, then the run read whole or up to its first fault. -/
theorem readKnotsReadsOrReportsFault : Obligations.ReadKnotsReadsOrReportsFault := by
  unfold Obligations.ReadKnotsReadsOrReportsFault
  intro s tag h first count hidle
  have hrun : exec (.readKnots tag h first count) s = .next (reqReadKnots tag h first count (taken s 8)) :=
    next_onRequest hidle 8 _
  rw [hrun]
  refine ⟨fun r hr => congrArg _ (reqReadKnots_error (taken_checkHandle_error hr)), ?_⟩
  intro i hnames
  have hc := taken_checkHandle_ok (len := 8) hnames
  refine ⟨fun hcount => congrArg _ (reqReadKnots_count hc hcount),
    fun hmin hmax hend => congrArg _ (reqReadKnots_run_range hc hmin hmax hend), ?_⟩
  intro hmin hmax hend
  refine ⟨?_, ?_⟩
  · intro hgood
    exact congrArg _ (reqReadKnots_good (s := taken s 8) hc hmin hmax hend hgood)
  · intro j hfault
    rw [reqReadKnots_fault (s := taken s 8) hc hmin hmax hend hfault, answered_damageReported]

/-- Settles O19: the request by its check of the state, the completion by the check of the entry. -/
theorem finishChecksAndStages : Obligations.FinishChecksAndStages := by
  unfold Obligations.FinishChecksAndStages
  refine ⟨?_, ?_, ?_⟩
  · intro s tag h crc i hidle hnames
    have hrun : exec (.finish tag h crc) s = .next (reqFinish tag h crc (taken s 7)) := next_onRequest hidle 7 _
    have hc := taken_checkHandle_ok (len := 7) hnames
    rw [hrun]
    exact ⟨fun hst => congrArg _ (reqFinish_state hc hst), fun hst => congrArg _ (reqFinish_ok hc hst)⟩
  · intro s tag crc i he
    rw [exec_finishComplete he]
    refine ⟨?_, ?_, ?_⟩
    · intro hgood heq
      exact congrArg _ (endFinish_ok (by rw [checkEntry_crc hgood, heq]))
    · intro hgood hne
      exact congrArg _ (endFinish_mismatch (checkEntry_crc hgood) hne)
    · intro j hfault
      exact congrArg _ (endFinish_fault (checkEntry_fault hfault))
  · intro s hne
    show execFinishComplete s = _
    unfold execFinishComplete
    split
    · next tag i crc he => exact absurd he (hne tag i crc)
    · rfl

/-- Settles O20: the request by its check of the state, the completion by the check of the entry. -/
theorem verifyChecksAndMarksDamage : Obligations.VerifyChecksAndMarksDamage := by
  unfold Obligations.VerifyChecksAndMarksDamage
  refine ⟨?_, ?_, ?_⟩
  · intro s tag h i hidle hnames
    have hrun : exec (.verify tag h) s = .next (reqVerify tag h (taken s 5)) := next_onRequest hidle 5 _
    have hc := taken_checkHandle_ok (len := 5) hnames
    rw [hrun]
    exact ⟨fun hstaged hlive => congrArg _ (reqVerify_state hc hstaged hlive),
      fun hst => congrArg _ (reqVerify_ok hc hst)⟩
  · intro s tag i check he hv
    rw [exec_verifyComplete he]
    refine ⟨?_, ?_, ?_⟩
    · intro hgood heq
      exact congrArg _ (endVerify_ok hv (by rw [checkEntry_crc hgood, heq]))
    · intro hgood hne
      exact congrArg _ (endVerify_mismatch hv (checkEntry_crc hgood) hne)
    · intro j hfault
      exact congrArg _ (endVerify_fault (checkEntry_fault hfault))
  · intro s hne
    show execVerifyComplete s = _
    unfold execVerifyComplete
    split
    · next tag i he => exact absurd he (hne tag i)
    · rfl

end Sys2Proof.KnotStore

/-! PROOFS. The check values of messages, their lengths, and their bytes on the outgoing lane. -/

namespace Sys2Proof.KnotStore

open Sys2Proof Sys2Proof.Machine Sys2Proof.Safety Sys2Proof.ProfileTable

/-! ### A check value fed to its own register (R37, R115) -/

/-- A register that shifts out its own top bits, as the bits of a byte, shifts and does nothing else. -/
theorem foldl_own_bits {w : Nat} {f : BitVec w → Bool → BitVec w} (hf : ∀ r, f r r.msb = r <<< 1) (r : BitVec w)
    (b : Byte) (n k : Nat) (hk : k + n ≤ w) (hb : ∀ i, i < n → b.getLsbD i = r.getLsbD (w - k - n + i)) :
    (List.range n).reverse.foldl (fun r i => f r (b.getLsbD i)) (r <<< k) = r <<< (k + n) := by
  induction n generalizing k with
  | zero => rfl
  | succ n ih =>
    have htop : b.getLsbD n = (r <<< k).msb := by
      have hpos : w - k - (n + 1) + n = w - 1 - k := by omega
      have hin : w - 1 < w := by omega
      have hnot : ¬ w - 1 < k := by omega
      rw [hb n (Nat.lt_succ_self n), hpos, BitVec.msb_eq_getLsbD_last, BitVec.getLsbD_shiftLeft]
      simp [hin, hnot]
    rw [List.range_succ, List.reverse_append, List.reverse_singleton, List.singleton_append, List.foldl_cons, htop, hf,
      ← BitVec.shiftLeft_add, ih (k + 1) (by omega), Nat.add_assoc, Nat.add_comm 1 n]
    intro i hi
    rw [hb i (by omega)]
    congr 1
    omega

theorem crc16Bit_msb (r : Word) : crc16Bit r r.msb = r <<< 1 := by simp [crc16Bit]

theorem crc8Bit_msb (r : Byte) : crc8Bit r r.msb = r <<< 1 := by simp [crc8Bit]

/-- A byte of the register's own top bits shifts it by eight. -/
theorem foldl_own_byte {w : Nat} {f : BitVec w → Bool → BitVec w} (hf : ∀ r, f r r.msb = r <<< 1) (r : BitVec w)
    (b : Byte) (k : Nat) (hk : k + 8 ≤ w) (hb : ∀ i, i < 8 → b.getLsbD i = r.getLsbD (w - k - 8 + i)) :
    [7, 6, 5, 4, 3, 2, 1, 0].foldl (fun r i => f r (b.getLsbD i)) (r <<< k) = r <<< (k + 8) :=
  foldl_own_bits hf r b 8 k hk hb

theorem crc8Byte_self (r : Byte) : crc8Byte r r = 0 := by
  have h := foldl_own_byte crc8Bit_msb r r 0 (Nat.le_refl 8) (fun i _ => by simp)
  rw [BitVec.shiftLeft_zero, BitVec.shiftLeft_eq_zero (Nat.le_refl 8)] at h
  exact h

theorem hiByte_eq_extract (r : Word) : hiByte r = r.extractLsb' 8 8 := by
  rw [hiByte, BitVec.extractLsb', Nat.shiftRight_eq_div_pow]

theorem loByte_eq_setWidth (r : Word) : loByte r = r.setWidth 8 := BitVec.ofNat_toNat 8 r

/-- The two bytes of a word in the CRC-16 register clear it. -/
theorem crc16Byte_wordBytes (r : Word) : crc16Byte (crc16Byte r (hiByte r)) (loByte r) = 0 := by
  have hhi := foldl_own_byte crc16Bit_msb r (hiByte r) 0 (by decide)
    (fun i hi => by rw [hiByte_eq_extract, BitVec.getLsbD_extractLsb']; simp [hi])
  have hlo := foldl_own_byte crc16Bit_msb r (loByte r) 8 (by decide)
    (fun i hi => by rw [loByte_eq_setWidth, BitVec.getLsbD_setWidth]; simp [hi])
  rw [BitVec.shiftLeft_zero] at hhi
  rw [BitVec.shiftLeft_eq_zero (Nat.le_refl 16)] at hlo
  exact (congrArg (fun x => crc16Byte x (loByte r)) hhi).trans hlo

theorem crc16Bytes_own (bytes : List Byte) : crc16Bytes (bytes ++ wordBytes (crc16Bytes bytes)) = 0 := by
  unfold crc16Bytes
  rw [List.foldl_append]
  exact crc16Byte_wordBytes _

theorem crc8_own (bytes : List Byte) : crc8 (bytes ++ [crc8 bytes]) = 0 := by
  unfold crc8
  rw [List.foldl_append]
  exact crc8Byte_self _

theorem crc16Bytes_check : crc16Bytes [0x31, 0x32, 0x33, 0x34, 0x35, 0x36, 0x37, 0x38, 0x39] = 0x29B1 := by
  decide +kernel

theorem crc8_check : crc8 [0x31, 0x32, 0x33, 0x34, 0x35, 0x36, 0x37, 0x38, 0x39] = 0xF4 := by
  decide +kernel

/-! ### Wider values -/

/-- A byte of a number goes by the number modulo 256. -/
theorem ofNat_byte_mod (n : Nat) : BitVec.ofNat 8 n = BitVec.ofNat 8 (n % 256) := by
  apply BitVec.eq_of_toNat_eq
  simp

theorem wordBytes_eq (w : Word) : wordBytes w = [BitVec.ofNat 8 (w.toNat / 256), BitVec.ofNat 8 (w.toNat % 256)] := by
  rw [← ofNat_byte_mod]
  rfl

theorem knotBytes_eq (k : Knot) : knotBytes k = [BitVec.ofNat 8 (k.toNat / 256), BitVec.ofNat 8 (k.toNat % 256)] := by
  rw [← ofNat_byte_mod]
  rfl

theorem length_knotBytes (ks : List Knot) : (ks.flatMap knotBytes).length = 2 * ks.length := by
  induction ks with
  | nil => rfl
  | cons k ks ih =>
    rw [List.flatMap_cons, List.length_append, ih, List.length_cons]
    show 2 + 2 * ks.length = _
    omega

/-! ### Lengths of messages (R182) -/

/-- A sent message ends with its check byte (R115). -/
theorem crc8_encode (m : OutMessage) : crc8 m.encode = 0 := crc8_own m.body

/-- The bytes of a header's items, by the kind of the selection (R148). -/
def itemBytes (sel : Selection) : Nat :=
  match sel with
  | .fallback => 19
  | .pure _ => 25
  | .degraded _ => 25
  | .blend _ _ _ => 33

theorem length_items (s : State) (p : Stream) (l : Lookup) : (s.headerOf p l).items.length = itemBytes l.selection := by
  cases hsel : l.selection <;>
    simp [State.headerOf, Header.items, hsel, Selection.anchorA, Selection.anchorB, Selection.weight, AnchorItem.bytes,
      Handle.bytes, Geometry.bytes, wordBytes, itemBytes]

theorem length_encode_header (h : Header) : (OutMessage.header h).encode.length = 3 + h.items.length := by
  simp only [OutMessage.encode, OutMessage.body, List.length_append, List.length_cons, List.length_nil]
  omega

theorem length_encode_row (tag : Byte) (r : Nat) (ks : List Knot) :
    (OutMessage.row tag r ks).encode.length = 5 + 2 * ks.length := by
  simp only [OutMessage.encode, OutMessage.body, List.length_append, List.length_cons, List.length_nil,
    length_knotBytes]
  omega

theorem lengthByte_header (h : Header) : (OutMessage.header h).encode[1]? = some (byteOf h.items.length) := rfl

/-- An origin's byte (section 11.1). -/
theorem origin_byte_baseline (n : Stream) : (Origin.baseline n).byte = BitVec.ofNat 8 (0x10 + n.val) := by
  revert n
  decide

/-! ### The outgoing lane (R114) -/

theorem laneBytes_append (x : Port) (ms : List OutMessage) : ({ x with out := x.out ++ ms } : Port).laneBytes =
    x.laneBytes ++ ms.flatMap (fun m => m.encode ++ [0x00]) := by
  unfold Port.laneBytes
  rw [List.flatMap_append, List.append_assoc]
  rfl

theorem laneBytes_of_out_nil {x : Port} (h : x.out = []) :
    (x.cut = [] → x.laneBytes = []) ∧ (x.cut ≠ [] → x.laneBytes = x.cut ++ [0x00]) := by
  unfold Port.laneBytes
  rw [h]
  refine ⟨fun hcut => ?_, fun hcut => ?_⟩
  · rw [if_pos hcut]
    rfl
  · rw [if_neg hcut]
    exact List.append_nil _

theorem append_congr {a b c d : List Byte} (h : a = b) (h' : c = d) : a ++ c = b ++ d := congrArg₂ HAppend.hAppend h h'

/-- Settles O22: registers that clear themselves, lengths item by item, and bytes message by message. -/
theorem checksAndLengthsOfMessages : Obligations.ChecksAndLengthsOfMessages := by
  unfold Obligations.ChecksAndLengthsOfMessages
  refine ⟨⟨crc16Bytes_check, crc8_check, crc16Bytes_own, crc8_own⟩, ⟨?_, ?_, crc8_encode⟩, laneBytes_append,
    fun x => laneBytes_of_out_nil, wordBytes_eq, knotBytes_eq, fun _ => rfl, ?_⟩
  · intro s p l
    have hitems := length_items s p l
    refine ⟨(length_encode_header _).trans (congrArg _ hitems), ?_⟩
    rw [lengthByte_header, hitems]
    cases l.selection <;> rfl
  · intro tag r ks _
    exact ⟨length_encode_row tag r ks, rfl⟩
  · intro sent anchor
    refine ⟨?_, ?_, ?_, ?_⟩
    · intro tag status
      rfl
    · intro n
      cases n <;> rfl
    · intro tag r ks
      rfl
    · intro h items
      have hanchor : ∀ (code : Byte) (a : AnchorItem), anchor code (some a) = [code] ++ a.bytes := by
        intro code a
        cases ho : a.origin with
        | host =>
          simp only [anchor, ho, AnchorItem.bytes]
          rfl
        | baseline n =>
          simp only [anchor, ho, AnchorItem.bytes, origin_byte_baseline]
          rfl
      have hitems : items = h.items := by
        refine append_congr (append_congr (append_congr (append_congr (append_congr ?_ rfl) ?_) ?_) ?_) rfl
        · conv_rhs => rw [List.append_assoc, List.append_assoc]
          refine append_congr ?_ ?_
          · cases h.kind <;> rfl
          · cases h.format <;> rfl
        · cases h.anchorA with
          | none => rfl
          | some a => exact hanchor 0x06 a
        · cases h.anchorB with
          | none => rfl
          | some b => exact hanchor 0x07 b
        · cases h.weight <;> rfl
      rw [hitems]
      rfl

end Sys2Proof.KnotStore

/-! PROOFS. Layouts and the order of a projected view: plateau edges, validity condition by condition, edits in key
order. -/

namespace Sys2Proof.StreamViews

open Sys2Proof Sys2Proof.Machine Sys2Proof.Safety Sys2Proof.ProfileTable

/-! ### Plateau edges (R53) -/

/-- The lower edge of R53, its clamp at 0 written out. -/
theorem lower_eq (a : Anchor) :
    a.lower = if a.plateau.toNat ≤ a.key.toNat then a.key.toNat - a.plateau.toNat else 0 := by
  unfold Anchor.lower
  split <;> omega

/-- The upper edge of R53, its clamp at 65535 written out. -/
theorem upper_eq (a : Anchor) :
    a.upper = if a.key.toNat + a.plateau.toNat ≤ 65535 then a.key.toNat + a.plateau.toNat else 65535 := by
  unfold Anchor.upper
  split <;> omega

theorem lower_le_key (a : Anchor) : a.lower ≤ a.key.toNat := Nat.sub_le _ _

theorem key_le_upper (a : Anchor) : a.key.toNat ≤ a.upper := by
  have hkey := a.key.isLt
  unfold Anchor.upper
  omega

/-- Plateaus that do not meet stand at different keys, in their order. -/
theorem key_lt_of_upper_lt_lower {a b : Anchor} (h : a.upper < b.lower) : a.key.toNat < b.key.toNat :=
  calc a.key.toNat ≤ a.upper := key_le_upper a
    _ < b.lower := h
    _ ≤ b.key.toNat := lower_le_key b

/-! ### Layout validity (R54) -/

/-- Condition 3 of R54: each consecutive pair of plateaus is apart. -/
def PlateausApart (as : List Anchor) : Prop :=
  ∀ (i : Nat) (a b : Anchor), as[i]? = some a → as[i + 1]? = some b → a.upper < b.lower

theorem plateausApart_cons_cons {a b : Anchor} {as : List Anchor} :
    PlateausApart (a :: b :: as) ↔ a.upper < b.lower ∧ PlateausApart (b :: as) := by
  constructor
  · intro h
    exact ⟨h 0 a b rfl rfl, fun i => h (i + 1)⟩
  · rintro ⟨hab, h⟩ i x y hx hy
    cases i with
    | zero =>
      cases hx
      cases hy
      exact hab
    | succ i => exact h i x y hx hy

/-- No pair is reported exactly when condition 3 holds. -/
theorem crowdedPair_eq_none {as : List Anchor} : crowdedPair as = none ↔ PlateausApart as := by
  induction as with
  | nil => simp [crowdedPair, PlateausApart]
  | cons a as ih =>
    cases as with
    | nil => simp [crowdedPair, PlateausApart]
    | cons b bs =>
      rw [plateausApart_cons_cons, ← ih]
      by_cases hab : a.upper < b.lower <;> simp [crowdedPair, hab]

/-- Along plateaus that are apart, every key lies above all the keys before it. -/
theorem PlateausApart.keys_rise {as : List Anchor} (h : PlateausApart as) :
    as.Pairwise (fun a b => a.key.toNat < b.key.toNat) := by
  have hchain : (as.map (fun a => a.key.toNat)).IsChain (· < ·) :=
    (List.isChain_map _).2 (List.isChain_iff_getElem.2 fun i hi => key_lt_of_upper_lt_lower
      (h i _ _ (List.getElem?_eq_getElem (Nat.lt_of_succ_lt hi)) (List.getElem?_eq_getElem hi)))
  exact List.pairwise_map.1 hchain.pairwise

/-- Condition 3 implies condition 2 (R54). -/
theorem PlateausApart.keys_nodup {as : List Anchor} (h : PlateausApart as) : (as.map (fun a => a.key)).Nodup := by
  rw [List.Nodup, List.pairwise_map]
  exact h.keys_rise.imp fun hlt heq => Nat.ne_of_lt hlt (congrArg BitVec.toNat heq)

/-- An entry fits a view exactly when it has a profile of the view's grid and format. -/
theorem fits_iff_profile {e : Entry} {c : ViewConfig} :
    e.fits c = true ↔ ∃ p, e.profile = some p ∧ p.geometry = c.geometry ∧ p.format = c.format := by
  cases hp : e.profile with
  | none => simp [Entry.fits, hp]
  | some p => simp [fits_iff hp]

/-- The layouts in which no condition of R54 breaks are those in which all five hold. -/
theorem layoutFault_eq_none_iff_valid (s : State) (c : ViewConfig) (as : List Anchor) :
    s.layoutFault c as = none ↔
      (as.length ≤ 8 ∧ (as.map (fun a => a.key)).Nodup ∧ PlateausApart as ∧
        (as.map (fun a => a.handle.index)).Nodup ∧
        ∀ a ∈ as, ∃ p, s.entries[a.handle.index].profile = some p ∧ p.geometry = c.geometry ∧ p.format = c.format) := by
  rw [layoutFault_eq_none, crowdedPair_eq_none, distinctEntries_iff]
  simp only [fits_iff_profile]
  constructor
  · rintro ⟨hlen, hapart, hdistinct, hfit⟩
    exact ⟨hlen, hapart.keys_nodup, hapart, hdistinct, hfit⟩
  · rintro ⟨hlen, -, hapart, hdistinct, hfit⟩
    exact ⟨hlen, hapart, hdistinct, hfit⟩

/-! ### Edits in key order (R68) -/

/-- An anchor list in ascending key order, equal keys allowed. -/
def KeyOrdered (as : List Anchor) : Prop := as.Pairwise (fun a b => a.key.toNat ≤ b.key.toNat)

/-- Anchor a stands in `out` after every anchor of `as` of lower or equal key and before every one of higher key. -/
def PlacedByKey (a : Anchor) (as out : List Anchor) : Prop :=
  ∃ l r, as = l ++ r ∧ out = l ++ [a] ++ r ∧ (∀ x ∈ l, x.key.toNat ≤ a.key.toNat) ∧ ∀ x ∈ r, a.key.toNat < x.key.toNat

theorem insertAnchor_placed (a : Anchor) {as : List Anchor} (h : KeyOrdered as) :
    PlacedByKey a as (insertAnchor a as) := by
  induction as with
  | nil => exact ⟨[], [], rfl, rfl, List.forall_mem_nil _, List.forall_mem_nil _⟩
  | cons b bs ih =>
    obtain ⟨hb, hbs⟩ := List.pairwise_cons.1 h
    unfold insertAnchor
    split
    · next hle =>
      obtain ⟨l, r, has, hout, hl, hr⟩ := ih hbs
      exact ⟨b :: l, r, congrArg (b :: ·) has, congrArg (b :: ·) hout, List.forall_mem_cons.2 ⟨hle, hl⟩, hr⟩
    · next hgt =>
      have hlt := Nat.lt_of_not_le hgt
      exact ⟨[], b :: bs, rfl, rfl, List.forall_mem_nil _,
        List.forall_mem_cons.2 ⟨hlt, fun x hx => Nat.lt_of_lt_of_le hlt (hb x hx)⟩⟩

theorem PlacedByKey.keyOrdered {a : Anchor} {as out : List Anchor} (hp : PlacedByKey a as out) (h : KeyOrdered as) :
    KeyOrdered out := by
  obtain ⟨l, r, rfl, rfl, hl, hr⟩ := hp
  obtain ⟨hll, hrr, hlr⟩ := List.pairwise_append.1 h
  rw [List.append_assoc]
  refine List.pairwise_append.2 ⟨hll, List.pairwise_cons.2 ⟨fun x hx => Nat.le_of_lt (hr x hx), hrr⟩, ?_⟩
  intro x hx y hy
  rcases List.mem_cons.1 hy with rfl | hy
  · exact hl x hx
  · exact hlr x hx y hy

theorem KeyOrdered.removeAnchor {as : List Anchor} (h : KeyOrdered as) (i : EntryIndex) :
    KeyOrdered (removeAnchor i as) := h.filter _

theorem KeyOrdered.applyEdit {as : List Anchor} (h : KeyOrdered as) (e : Edit) : KeyOrdered (applyEdit as e) := by
  cases e with
  | attach hd k p => exact (insertAnchor_placed _ h).keyOrdered h
  | detach hd => exact h.removeAnchor hd.index
  | move hd k p =>
    have hrest := h.removeAnchor hd.index
    cases hf : findAnchor hd.index as with
    | none => rwa [applyEdit_move_none hf]
    | some a =>
      rw [applyEdit_move_some hf]
      exact (insertAnchor_placed _ hrest).keyOrdered hrest

theorem KeyOrdered.applyEdits {as : List Anchor} (h : KeyOrdered as) (es : List Edit) :
    KeyOrdered (applyEdits as es) := by
  induction es generalizing as with
  | nil => exact h
  | cons e es ih => exact ih (h.applyEdit e)

/-- Where no entry stands twice, the anchor of an entry is the one found. -/
theorem findAnchor_of_mem {as : List Anchor} {x : Anchor} {i : EntryIndex} (hx : x ∈ as) (hi : x.handle.index = i)
    (hd : (as.map (fun a => a.handle.index)).Nodup) : findAnchor i as = some x := by
  obtain ⟨a, hf⟩ := Option.isSome_iff_exists.1 (findAnchor_isSome.2 ⟨x, hx, hi⟩)
  obtain ⟨ha, hai⟩ := findAnchor_some hf
  rw [hf, List.inj_on_of_nodup_map hd ha hx (hai.trans hi.symm)]

/-- A MOVE takes its anchor out and puts it back by its new key. -/
theorem applyEdit_move_placed {as : List Anchor} {h : Handle} {k p : Word} {x : Anchor} (has : KeyOrdered as)
    (hx : x ∈ as) (hi : x.handle.index = h.index) (hd : (as.map (fun a => a.handle.index)).Nodup) :
    PlacedByKey { x with key := k, plateau := p } (removeAnchor h.index as) (applyEdit as (.move h k p)) := by
  rw [applyEdit_move_some (findAnchor_of_mem hx hi hd)]
  exact insertAnchor_placed _ (has.removeAnchor h.index)

/-- Settles O24: the edges and the conditions one by one, then each edit by where it places its anchor. -/
theorem layoutAndProjectedOrder : Obligations.LayoutAndProjectedOrder := by
  unfold Obligations.LayoutAndProjectedOrder
  refine ⟨⟨fun a => ⟨lower_eq a, upper_eq a⟩, layoutFault_eq_none_iff_valid⟩, ?_⟩
  intro as has
  refine ⟨?attach, fun _ => rfl, ?move, KeyOrdered.applyEdits has, ?projected⟩
  case attach =>
    intro h k p
    exact insertAnchor_placed _ has
  case move =>
    intro h k p x hx hi hd
    exact applyEdit_move_placed has hx hi hd
  case projected =>
    rintro s n rfl
    rfl

end Sys2Proof.StreamViews

/-! PROOFS. CONFIGURE_VIEW and the queries of views, edits and points: their checks, and the bytes of their answers. -/

namespace Sys2Proof.StreamViews

open Sys2Proof Sys2Proof.Machine Sys2Proof.Safety Sys2Proof.ProfileTable

/-! ### CONFIGURE_VIEW (R57, R58) -/

section Configure

variable {s : State} {tag b c r ch f : Byte} {n : Stream} {g : Geometry} {fmt : Format}

theorem reqConfigureView_stream (hb : 4 ≤ b.toNat) :
    reqConfigureView tag b c r ch f s = s.respond tag 0x20 .range [] := by
  unfold reqConfigureView
  rw [streamOf_none hb]

theorem reqConfigureView_grid (hb : StreamByte b n) (hg : ¬ ∃ g, GridBytes c r ch g) :
    reqConfigureView tag b c r ch f s = s.respond tag 0x20 .range [] := by
  unfold reqConfigureView
  simp only [streamOf_some hb, geometryOf_none hg]

theorem reqConfigureView_format (hb : StreamByte b n) (hf : ¬ ∃ fmt, FormatByte f fmt) :
    reqConfigureView tag b c r ch f s = s.respond tag 0x20 .range [] := by
  unfold reqConfigureView
  simp only [streamOf_some hb, formatOf_none hf]
  cases geometryOf c r ch <;> rfl

/-- View n holds no anchors, and its list holds no edits and is UNARMED (R57). -/
def Unused (s : State) (n : Stream) : Prop :=
  s.views[n].anchors = [] ∧ s.lists[n].edits = [] ∧ s.lists[n].target = none

theorem reqConfigureView_busy (hb : StreamByte b n) (hg : GridBytes c r ch g) (hf : FormatByte f fmt)
    (hbusy : ¬ Unused s n) :
    reqConfigureView tag b c r ch f s = s.respond tag 0x20 .viewBusy
      [byteOf s.views[n].anchors.length, byteOf s.lists[n].edits.length, flagByte s.lists[n].target.isSome] := by
  unfold reqConfigureView
  simp only [streamOf_some hb, geometryOf_some hg, formatOf_some hf]
  exact if_neg hbusy

theorem reqConfigureView_ok (hb : StreamByte b n) (hg : GridBytes c r ch g) (hf : FormatByte f fmt)
    (hunused : Unused s n) :
    reqConfigureView tag b c r ch f s =
      (s.setView n { s.views[n] with config := some { geometry := g, format := fmt } }).respond tag 0x20 .ok
        ([b, c, r, ch, f] ++ wordBytes s.views[n].generation) := by
  unfold reqConfigureView
  simp only [streamOf_some hb, geometryOf_some hg, formatOf_some hf, geometry_bytes_eq hg, format_byte_eq hf]
  exact if_pos hunused

end Configure

/-- Settles O23: the operands in their order, then whether the view is in use. -/
theorem configureViewSetsEmptyView : Obligations.ConfigureViewSetsEmptyView := by
  unfold Obligations.ConfigureViewSetsEmptyView
  intro s tag b c r ch f hidle
  have hrun : exec (.configureView tag b c r ch f) s = .next (reqConfigureView tag b c r ch f (taken s 8)) :=
    next_onRequest hidle 8 _
  rw [hrun]
  refine ⟨?stream, fun n hb => ⟨?grid, ?format, fun g fmt hg hf => ⟨?busy, ?ok⟩⟩⟩
  case stream =>
    intro hb
    exact congrArg _ (reqConfigureView_stream hb)
  case grid =>
    intro hg
    exact congrArg _ (reqConfigureView_grid hb hg)
  case format =>
    intro hf
    exact congrArg _ (reqConfigureView_format hb hf)
  case busy =>
    intro hbusy
    have hused : ¬ Unused (taken s 8) n := fun ⟨ha, he, ht⟩ => by
      rcases hbusy with h | h | h
      · exact h ha
      · exact h he
      · exact h ht
    exact congrArg _ (reqConfigureView_busy hb hg hf hused)
  case ok =>
    intro ha he ht
    exact congrArg _ (reqConfigureView_ok (s := taken s 8) hb hg hf ⟨ha, he, ht⟩)

/-! ### The damaged mask (R60) -/

/-- Powers of two summed over the positions of a list, and over the numbers of a range that covers them. -/
theorem sum_zipIdx_pow {α : Type} (d : α → Bool) (as : List α) (m k : Nat) (hk : as.length ≤ k) :
    ((as.zipIdx m).map (fun p => if d p.1 then 2 ^ p.2 else 0)).sum =
      ((List.range k).map (fun i => if as[i]?.any d then 2 ^ (m + i) else 0)).sum := by
  induction as generalizing m k with
  | nil => simp
  | cons a as ih =>
    cases k with
    | zero => exact absurd hk (Nat.not_succ_le_zero _)
    | succ k =>
      rw [List.zipIdx_cons, List.map_cons, List.sum_cons, ih (m + 1) k (Nat.le_of_succ_le_succ hk),
        List.range_succ_eq_map, List.map_cons, List.sum_cons, List.map_map]
      congr 3
      funext i
      simp only [Function.comp_apply, List.getElem?_cons_succ, Nat.succ_eq_add_one]
      rw [Nat.add_right_comm, Nat.add_assoc]

/-- Bit i of the mask says whether the anchor at position i + 1 names a damaged entry. -/
theorem damagedMask_bit (s : State) {as : List Anchor} (has : as.length ≤ 8) {i : Nat} (hi : i < 8) :
    (s.damagedMask as).getLsbD i = as[i]?.any (fun a => s.entries[a.handle.index].damaged) := by
  have hsum : s.damagedMask as = byteOf (((List.range 8).map (fun j =>
      if as[j]?.any (fun a => s.entries[a.handle.index].damaged) then 2 ^ (0 + j) else 0)).sum) :=
    congrArg byteOf (sum_zipIdx_pow (fun a : Anchor => s.entries[a.handle.index].damaged) as 0 8 has)
  simp only [hsum, Nat.zero_add]
  exact getLsbD_byteOf_sum _ i hi

/-! ### The answers of the queries (R60, R89, R101; section 11.1) -/

theorem reqQueryView_ok {s : State} {tag b : Byte} {n : Stream} (hb : StreamByte b n) :
    reqQueryView tag b s = s.respond tag 0x21 .ok (s.viewBytes n) := by
  unfold reqQueryView
  rw [streamOf_some hb]

theorem reqQueryView_range {s : State} {tag b : Byte} (hb : 4 ≤ b.toNat) :
    reqQueryView tag b s = s.respond tag 0x21 .range [] := by
  unfold reqQueryView
  rw [streamOf_none hb]

theorem reqQueryEdits_ok {s : State} {tag b : Byte} {n : Stream} (hb : StreamByte b n) :
    reqQueryEdits tag b s = s.respond tag 0x28 .ok (s.editBytes n) := by
  unfold reqQueryEdits
  rw [streamOf_some hb]

theorem reqQueryEdits_range {s : State} {tag b : Byte} (hb : 4 ≤ b.toNat) :
    reqQueryEdits tag b s = s.respond tag 0x28 .range [] := by
  unfold reqQueryEdits
  rw [streamOf_none hb]

/-- The bytes of an edit in a list's report: its kind, then its handle, key and plateau. -/
theorem edit_bytes_eq (e : Edit) : e.bytes = match e with
    | .attach h k p => [1, byteOf h.index.val, h.revision, hiByte k, loByte k, hiByte p, loByte p]
    | .detach h => [2, byteOf h.index.val, h.revision, 0, 0, 0, 0]
    | .move h k p => [3, byteOf h.index.val, h.revision, hiByte k, loByte k, hiByte p, loByte p] := by
  cases e <;> rfl

theorem levelByte_eq (l : LineLevel) : levelByte l = if l = .high then 1 else 0 := by
  cases l <;> rfl

/-- Settles O25: each query by its one check, and each report part by part. -/
theorem viewEditPointQueriesReport : Obligations.ViewEditPointQueriesReport := by
  unfold Obligations.ViewEditPointQueriesReport
  refine ⟨fun f => ?formats, fun p => ?polarities, ?_⟩
  case formats => cases f <;> rfl
  case polarities => cases p <;> rfl
  intro s tag b hidle
  have hview : exec (.queryView tag b) s = .next (reqQueryView tag b (taken s 4)) := next_onRequest hidle 4 _
  have hedits : exec (.queryEdits tag b) s = .next (reqQueryEdits tag b (taken s 4)) := next_onRequest hidle 4 _
  have hpoints : exec (.queryPoints tag) s = .next (reqQueryPoints tag (taken s 3)) := next_onRequest hidle 3 _
  rw [hview, hedits, hpoints]
  refine ⟨?range, ?view, ?edits, ?points⟩
  case range =>
    intro hb
    exact ⟨congrArg _ (reqQueryView_range hb), congrArg _ (reqQueryEdits_range hb)⟩
  case view =>
    intro n hb hlen
    refine ⟨s.damagedMask s.views[n].anchors, ?_, ?_⟩
    · have hbytes : (taken s 4).viewBytes n = s.viewBytes n := rfl
      rw [reqQueryView_ok hb, hbytes, State.viewBytes, streamByte_eq hb]
      cases s.views[n].config <;> rfl
    · intro i hi
      rw [damagedMask_bit s hlen hi]
      cases s.views[n].anchors[i]? <;> rfl
  case edits =>
    intro n hb
    have hbytes : (taken s 4).editBytes n = s.editBytes n := rfl
    rw [reqQueryEdits_ok hb, hbytes, State.editBytes, streamByte_eq hb, funext edit_bytes_eq]
    cases s.lists[n].target <;> rfl
  case points =>
    unfold reqQueryPoints
    simp only [levelByte_eq]
    rfl

end Sys2Proof.StreamViews

/-! PROOFS. COMMIT: the checks of one stream and of a mask, and the lists it arms. -/

namespace Sys2Proof.EditsAndPoints

open Sys2Proof Sys2Proof.Machine Sys2Proof.Safety Sys2Proof.ProfileTable

/-! ### Targets (R74, R75) -/

/-- A kind byte that is assigned names one target for every stream, which each works out from its own counter. -/
theorem exists_targetOf {kind : Byte} {N C T : Word} (h : CommitTarget kind N C T) : ∃ t, targetOf kind N = some t := by
  rcases h with ⟨rfl, -⟩ | ⟨rfl, -⟩
  · exact ⟨.next, rfl⟩
  · exact ⟨.count N, rfl⟩

theorem resolve_eq {kind : Byte} {N C T : Word} {t : Target} (ht : targetOf kind N = some t)
    (h : CommitTarget kind N C T) : t.resolve C = T := by
  rcases h with ⟨rfl, rfl⟩ | ⟨rfl, rfl⟩ <;> (cases ht; rfl)

theorem targetOf_none {kind : Byte} {N : Word} (h : 2 ≤ kind.toNat) : targetOf kind N = none := by
  have h0 : kind ≠ 0 := by
    rintro rfl
    exact absurd h (by decide)
  have h1 : kind ≠ 1 := by
    rintro rfl
    exact absurd h (by decide)
  unfold targetOf
  rw [if_neg h0, if_neg h1]

/-! ### The checks of one stream (R74, R77) -/

/-- An edit that is no ATTACH of a damaged entry is passed over. -/
theorem damagedAttach_cons_sound {s : State} {e : Edit} (es : List Edit) (h : NoDamagedAttach s [e]) :
    s.damagedAttach (e :: es) = s.damagedAttach es :=
  congrArg (Option.map Edit.handle) (List.find?_cons_of_neg (Bool.eq_false_iff.1 (h e List.mem_cons_self)))

theorem damagedAttach_cons_damaged {s : State} {h : Handle} (k p : Word) (es : List Edit)
    (hdamaged : s.entries[h.index].damaged = true) : s.damagedAttach (.attach h k p :: es) = some h :=
  congrArg (Option.map Edit.handle) (List.find?_cons_of_pos (a := Edit.attach h k p) hdamaged)

theorem noDamagedAttach_cons {s : State} {e : Edit} {es : List Edit} :
    NoDamagedAttach s (e :: es) ↔ NoDamagedAttach s [e] ∧ NoDamagedAttach s es := by
  simp only [NoDamagedAttach, List.forall_mem_cons, List.not_mem_nil, false_implies, implies_true, and_true]

theorem damagedAttach_append {s : State} {es : List Edit} (fs : List Edit) (h : NoDamagedAttach s es) :
    s.damagedAttach (es ++ fs) = s.damagedAttach fs := by
  induction es with
  | nil => rfl
  | cons e es ih =>
    obtain ⟨he, hes⟩ := noDamagedAttach_cons.1 h
    rw [List.cons_append, damagedAttach_cons_sound _ he, ih hes]

theorem damagedAttach_none {s : State} {es : List Edit} (h : NoDamagedAttach s es) : s.damagedAttach es = none := by
  have hes := damagedAttach_append [] h
  rwa [List.append_nil] at hes

theorem damagedAttach_some {s : State} {es : List Edit} {h : Handle} (hfirst : FirstDamagedAttach s es h) :
    s.damagedAttach es = some h := by
  obtain ⟨before, k, p, after, rfl, hdamaged, hbefore⟩ := hfirst
  rw [damagedAttach_append _ hbefore, damagedAttach_cons_damaged k p after hdamaged]

/-- The pair reported is the first that breaks condition 3. -/
theorem crowdedPair_some {as : List Anchor} {x y : Anchor} (h : FirstCrowded as x y) :
    crowdedPair as = some (x, y) := by
  obtain ⟨j, hx, hy, hcrowded, hbefore⟩ := h
  induction as generalizing j with
  | nil => cases hx
  | cons a as ih =>
    cases as with
    | nil => cases hy
    | cons b bs =>
      unfold crowdedPair
      cases j with
      | zero =>
        cases hx
        cases hy
        exact if_neg hcrowded
      | succ j =>
        rw [if_pos (hbefore 0 a b (Nat.succ_pos j) rfl rfl)]
        exact ih j hx hy fun i u v hi => hbefore (i + 1) u v (Nat.succ_lt_succ hi)

theorem layoutFault_tooMany {s : State} {c : ViewConfig} {as : List Anchor} (h : 8 < as.length) :
    s.layoutFault c as = some (.tooMany as.length) := by
  unfold State.layoutFault
  exact if_pos h

theorem layoutFault_crowded {s : State} {c : ViewConfig} {as : List Anchor} {x y : Anchor} (hlen : as.length ≤ 8)
    (h : FirstCrowded as x y) : s.layoutFault c as = some (.crowded x y) := by
  unfold State.layoutFault
  rw [if_neg (Nat.not_lt.2 hlen), crowdedPair_some h]

section Checks

variable {s : State} {t : Target} {n : Stream}

theorem checkCommit_unconfigured (hcfg : s.views[n].config = none) :
    s.checkCommit t n = .error (.unconfigured, [streamByte n]) := by
  unfold State.checkCommit
  rw [hcfg]

variable {c : ViewConfig} (hcfg : s.views[n].config = some c)
include hcfg

theorem checkCommit_nothingPending (hedits : s.lists[n].edits = []) :
    s.checkCommit t n = .error (.nothingPending, [streamByte n]) := by
  unfold State.checkCommit
  rw [hcfg]
  exact if_pos hedits

variable (hedits : s.lists[n].edits ≠ [])
include hedits

theorem checkCommit_armed {a : Word} (harmed : s.lists[n].target = some a) :
    s.checkCommit t n = .error (.armed, [streamByte n] ++ wordBytes a) := by
  unfold State.checkCommit
  simp only [hcfg, if_neg hedits, harmed]

variable (htarget : s.lists[n].target = none)
include htarget

theorem checkCommit_damaged {h : Handle} (hdamaged : FirstDamagedAttach s s.lists[n].edits h) :
    s.checkCommit t n = .error (.damaged, [streamByte n] ++ h.bytes) := by
  unfold State.checkCommit
  simp only [hcfg, if_neg hedits, htarget, damagedAttach_some hdamaged]

variable (hsound : NoDamagedAttach s s.lists[n].edits)
include hsound

theorem checkCommit_layout {f : LayoutFault} (hlayout : s.layoutFault c (s.projected n) = some f) :
    s.checkCommit t n = .error (.layout, [streamByte n] ++ f.bytes) := by
  unfold State.checkCommit
  simp only [hcfg, if_neg hedits, htarget, damagedAttach_none hsound, hlayout]

/-- Past the other checks the distance decides (R75). -/
theorem checkCommit_distance (hlayout : s.layoutFault c (s.projected n) = none) {T : Word}
    (hT : t.resolve s.points[n].counter = T) :
    s.checkCommit t n =
      if 1 ≤ (T - s.points[n].counter).toNat ∧ (T - s.points[n].counter).toNat ≤ 32767 then .ok T
      else .error (.tooLate, [streamByte n] ++ wordBytes s.points[n].counter ++ wordBytes T) := by
  unfold State.checkCommit
  simp only [hcfg, if_neg hedits, htarget, damagedAttach_none hsound, hlayout, hT, targetDistance]

end Checks

theorem checkCommit_ok {s : State} {t : Target} {n : Stream} {T : Word} (hT : t.resolve s.points[n].counter = T)
    (h : CommitPasses s n T) : s.checkCommit t n = .ok T := by
  obtain ⟨c, hcfg, hedits, htarget, hsound, hlayout, hdistance⟩ := h
  rw [checkCommit_distance hcfg hedits htarget hsound hlayout hT, if_pos hdistance]

/-! ### The checks of a mask (R74) -/

theorem checkCommits_ok {s : State} {t : Target} {T : Stream → Word} {l : List Stream}
    (h : ∀ n ∈ l, s.checkCommit t n = .ok (T n)) : s.checkCommits t l = .ok (l.map fun n => (n, T n)) := by
  induction l with
  | nil => rfl
  | cons n l ih =>
    obtain ⟨hn, hl⟩ := List.forall_mem_cons.1 h
    unfold State.checkCommits
    simp only [hn, ih hl, List.map_cons]

/-- The first stream that fails a check refuses the whole. -/
theorem checkCommits_error {s : State} {t : Target} {before after : List Stream} {n : Stream} {e : Result × List Byte}
    (hbefore : ∀ j ∈ before, ∃ U, s.checkCommit t j = .ok U) (hn : s.checkCommit t n = .error e) :
    s.checkCommits t (before ++ n :: after) = .error e := by
  induction before with
  | nil =>
    rw [List.nil_append]
    unfold State.checkCommits
    simp only [hn]
  | cons j before ih =>
    obtain ⟨⟨U, hU⟩, hrest⟩ := List.forall_mem_cons.1 hbefore
    rw [List.cons_append]
    unfold State.checkCommits
    simp only [hU, ih hrest]

/-- A stream of a mask, with the lower ones before it. -/
theorem maskStreams_split {m : StreamMask} {n : Stream} (h : inMask m n = true) :
    ∃ before after, maskStreams m = before ++ n :: after ∧ ∀ j ∈ before, j < n ∧ inMask m j = true := by
  obtain ⟨before, after, hsplit⟩ := List.append_of_mem (mem_maskStreams.2 h)
  have hsorted : (maskStreams m).Pairwise (· < ·) := List.Pairwise.filter _ (by decide)
  rw [hsplit] at hsorted
  refine ⟨before, after, hsplit, fun j hj => ⟨?_, ?_⟩⟩
  · exact (List.pairwise_append.1 hsorted).2.2 j hj n List.mem_cons_self
  · exact mem_maskStreams.1 (hsplit ▸ List.mem_append_left _ hj)

/-! ### Lists armed (R76) -/

/-- Each of these streams armed for its target, one after another. -/
theorem foldl_arm_lists (T : Stream → Word) (l : List Stream) (s : State) (n : Stream) :
    ((l.map fun n => (n, T n)).foldl (fun s p => s.arm p.1 p.2) s).lists[n] =
      if n ∈ l then { s.lists[n] with target := some (T n) } else s.lists[n] := by
  induction l generalizing s with
  | nil => rfl
  | cons k l ih =>
    rw [List.map_cons, List.foldl_cons, ih]
    by_cases hk : n = k
    · subst hk
      simp only [State.arm, setList_get_same, List.mem_cons, true_or, ↓reduceIte, ite_self]
    · simp only [State.arm, setList_get_other _ _ _ _ hk, List.mem_cons, hk, false_or]

/-! ### The request -/

section Request

variable {s : State} {tag m kind : Byte} {N : Word} {mask : StreamMask}

/-- No stream for the mask, or no target for the kind (R74, R181). -/
theorem reqCommit_range (h : 16 ≤ m.toNat ∨ m = 0 ∨ 2 ≤ kind.toNat) :
    reqCommit tag m kind N s = s.respond tag 0x25 .range [] := by
  unfold reqCommit
  rcases h with hm | rfl | hkind
  · rw [maskOf_none hm]
  · have hzero : maskOf 0 = some 0 := rfl
    rw [hzero]
    cases targetOf kind N <;> rfl
  · rw [targetOf_none hkind]
    cases maskOf m <;> rfl

theorem reqCommit_refused {t : Target} {r : Result} {d : List Byte} (hm : MaskByte m mask) (h0 : mask ≠ 0)
    (ht : targetOf kind N = some t) (hchecks : s.checkCommits t (maskStreams mask) = .error (r, d)) :
    reqCommit tag m kind N s = s.respond tag 0x25 r d := by
  unfold reqCommit
  simp only [maskOf_some hm, ht, if_neg h0, hchecks]

/-- A mask whose streams all pass is armed whole. -/
theorem reqCommit_accepted {T : Stream → Word} (hm : MaskByte m mask) (h0 : mask ≠ 0)
    (h : ∀ n, inMask mask n = true → CommitTarget kind N s.points[n].counter (T n) ∧ CommitPasses s n (T n)) :
    reqCommit tag m kind N s =
      (((maskStreams mask).map fun n => (n, T n)).foldl (fun s p => s.arm p.1 p.2) s).respond tag 0x25 .ok
        ([m] ++ (maskStreams mask).flatMap fun n => wordBytes (T n)) := by
  obtain ⟨k, hk⟩ : ∃ k, inMask mask k = true := by
    by_contra hno
    exact h0 (mask_eq_zero_iff.2 fun n => Bool.eq_false_iff.2 fun hn => hno ⟨n, hn⟩)
  obtain ⟨t, ht⟩ := exists_targetOf (h k hk).1
  have hchecks : s.checkCommits t (maskStreams mask) = .ok ((maskStreams mask).map fun n => (n, T n)) :=
    checkCommits_ok fun n hn => by
      obtain ⟨hT, hpasses⟩ := h n (mem_maskStreams.1 hn)
      exact checkCommit_ok (resolve_eq ht hT) hpasses
  unfold reqCommit
  simp only [maskOf_some hm, ht, if_neg h0, hchecks, maskByte_eq hm, List.flatMap_map]

/-- The lower streams of the mask pass every check. -/
def LowerPass (s : State) (kind : Byte) (N : Word) (mask : StreamMask) (n : Stream) : Prop :=
  ∀ j : Stream, j < n → inMask mask j = true → ∃ U, CommitTarget kind N s.points[j].counter U ∧ CommitPasses s j U

/-- The lowest stream that fails a check answers for the mask (R77). -/
theorem reqCommit_lowest {n : Stream} {T : Word} {r : Result} {d : List Byte} (hm : MaskByte m mask)
    (hn : inMask mask n = true) (hT : CommitTarget kind N s.points[n].counter T) (hlower : LowerPass s kind N mask n)
    (hcheck : ∀ t : Target, t.resolve s.points[n].counter = T → s.checkCommit t n = .error (r, d)) :
    reqCommit tag m kind N s = s.respond tag 0x25 r d := by
  obtain ⟨t, ht⟩ := exists_targetOf hT
  obtain ⟨before, after, hsplit, hbefore⟩ := maskStreams_split hn
  have h0 : mask ≠ 0 := by
    rintro rfl
    rw [inMask_zero] at hn
    cases hn
  refine reqCommit_refused hm h0 ht ?_
  rw [hsplit]
  refine checkCommits_error (fun j hj => ?_) (hcheck t (resolve_eq ht hT))
  obtain ⟨hlt, hin⟩ := hbefore j hj
  obtain ⟨U, hU, hpasses⟩ := hlower j hlt hin
  exact ⟨U, checkCommit_ok (resolve_eq ht hU) hpasses⟩

end Request

theorem exec_commit {s : State} (hidle : s.engine = .idle) (tag m kind : Byte) (N : Word) :
    exec (.commit tag m kind N) s = .next (reqCommit tag m kind N (taken s 7)) := next_onRequest hidle 7 _

/-- Settles O28: every stream passes its checks, and the fold that arms them writes their lists alone. -/
theorem commitArmsEveryStream : Obligations.CommitArmsEveryStream := by
  unfold Obligations.CommitArmsEveryStream
  intro s tag m kind N mask T hidle hm h0 hpass
  rw [exec_commit hidle]
  refine ⟨_, congrArg _ (reqCommit_accepted (s := taken s 7) hm h0 hpass), ?_, fun n => ?_⟩
  · rw [foldl_arm_frame]
    rfl
  · rw [respond_lists, foldl_arm_lists]
    simp only [mem_maskStreams]
    rfl

/-- A distance that is not 1 to 32767. -/
theorem distance_fails {C T : Word} (h : (T - C).toNat = 0 ∨ 32768 ≤ (T - C).toNat) :
    ¬ (1 ≤ (T - C).toNat ∧ (T - C).toNat ≤ 32767) := by omega

/-- Settles O29: the operands, then the checks of the lowest failing stream one by one. -/
theorem commitRefusedAllOrNothing : Obligations.CommitRefusedAllOrNothing := by
  unfold Obligations.CommitRefusedAllOrNothing
  intro s tag m kind N hidle
  rw [exec_commit hidle]
  refine ⟨fun h => congrArg _ (reqCommit_range h), fun mask n T hm hn hT hlower => ?_⟩
  have hrefused : ∀ {r : Result} {d : List Byte},
      (∀ t : Target, t.resolve s.points[n].counter = T → (taken s 7).checkCommit t n = .error (r, d)) →
      Host.Outcome.next (φ := Fault) (ρ := Refusal) (reqCommit tag m kind N (taken s 7)) =
        .next (answered s 7 tag 0x25 r d) :=
    fun hcheck => congrArg _ (reqCommit_lowest (s := taken s 7) hm hn hT hlower hcheck)
  refine ⟨fun hcfg => hrefused fun _ _ => checkCommit_unconfigured hcfg, fun c hcfg => ⟨?pending, ?_⟩⟩
  case pending => exact fun hedits => hrefused fun _ _ => checkCommit_nothingPending hcfg hedits
  refine fun hedits => ⟨?armed, fun htarget => ⟨?damaged, fun hsound => ⟨?tooMany, ?crowded, ?tooLate⟩⟩⟩
  case armed => exact fun a ha => hrefused fun _ _ => checkCommit_armed hcfg hedits ha
  case damaged => exact fun h hfirst => hrefused fun _ _ => checkCommit_damaged hcfg hedits htarget hfirst
  case tooMany =>
    exact fun hlen => hrefused fun _ _ => checkCommit_layout hcfg hedits htarget hsound (layoutFault_tooMany hlen)
  case crowded =>
    exact fun x y hlen hfirst => hrefused fun _ _ =>
      checkCommit_layout hcfg hedits htarget hsound (layoutFault_crowded hlen hfirst)
  case tooLate =>
    intro hlayout hlate
    refine hrefused fun t ht => ?_
    rw [checkCommit_distance (s := taken s 7) hcfg hedits htarget hsound hlayout ht]
    refine if_neg (distance_fails (hlate.imp_left fun h0 => ?_))
    rw [h0]
    rfl

/-- Settles O30: the distance as a number, R75's table, and what it decides for one stream. -/
theorem targetDistanceDecidesCommit : Obligations.TargetDistanceDecidesCommit := by
  unfold Obligations.TargetDistanceDecidesCommit
  refine ⟨?formula, ?next, ?table, ?commit⟩
  case formula =>
    intro C T
    have hC := C.isLt
    rw [BitVec.toNat_sub]
    omega
  case next =>
    intro C
    have hone : C + 1 - C = 1 := add_sub_cancel_left C 1
    rw [hone]
    rfl
  case table =>
    intro C N d passes h
    simp only [List.mem_cons, Prod.mk.injEq, List.not_mem_nil, or_false] at h
    rw [BitVec.toNat_sub]
    rcases h with ⟨hC, hN, rfl, rfl⟩ | ⟨hC, hN, rfl, rfl⟩ | ⟨hC, hN, rfl, rfl⟩ | ⟨hC, hN, rfl, rfl⟩ |
      ⟨hC, hN, rfl, rfl⟩ | ⟨hC, hN, rfl, rfl⟩ | ⟨hC, hN, rfl, rfl⟩ <;> simp [hC, hN]
  case commit =>
    intro s tag m kind N mask n c T hidle hm hn hT hcfg hedits htarget hsound hlayout
    rw [exec_commit hidle]
    refine ⟨?arms, ?late⟩
    case arms =>
      rintro rfl hlow hhigh
      have hpasses : CommitPasses s n T := ⟨c, hcfg, hedits, htarget, hsound, hlayout, hlow, hhigh⟩
      have h0 : streamBit n ≠ 0 := fun hzero => by
        rw [hzero, inMask_zero] at hn
        cases hn
      have hall : ∀ k, inMask (streamBit n) k = true →
          CommitTarget kind N s.points[k].counter T ∧ CommitPasses s k T := by
        intro k hk
        rw [inMask_streamBit, decide_eq_true_iff] at hk
        subst hk
        exact ⟨hT, hpasses⟩
      rw [reqCommit_accepted (s := taken s 7) (T := fun _ => T) hm h0 hall, maskStreams_streamBit]
      simp only [List.flatMap_cons, List.flatMap_nil, List.append_nil]
      rfl
    case late =>
      intro hlower hlate
      refine congrArg _ (reqCommit_lowest (s := taken s 7) hm hn hT hlower fun t ht => ?_)
      rw [checkCommit_distance (s := taken s 7) hcfg hedits htarget hsound hlayout ht]
      exact if_neg (distance_fails hlate)

end Sys2Proof.EditsAndPoints

/-! PROOFS. Points on the streams of a list: the records they leave, and what they publish. -/

namespace Sys2Proof.EditsAndPoints

open Sys2Proof Sys2Proof.Machine Sys2Proof.Safety Sys2Proof.ProfileTable

/-! ### A stream offered a point -/

/-- Stream n's record becomes `next` of it; where `made` says that this makes a point, a list due is applied. POINT and
BOUNDARY_EDGE do this on each of their streams. -/
def offer (made : PointRecord → Bool) (next : PointRecord → PointRecord) (s : State) (n : Stream) : State :=
  if made s.points[n] = true ∧ DueOn s n then (s.setPoint n (next s.points[n])).apply n
  else s.setPoint n (next s.points[n])

/-- The record with its counter one higher (R95). -/
def advanced (r : PointRecord) : PointRecord := { r with counter := r.counter + 1 }

/-- An edge brings the record to its prescale (R94). -/
def completes (r : PointRecord) : Bool := r.edgeCount + 1 = r.prescale

/-- The record after an edge that it counts (R94). -/
def edged (r : PointRecord) : PointRecord :=
  if completes r = true then { r with edgeCount := 0, counter := r.counter + 1 }
  else { r with edgeCount := r.edgeCount + 1 }

theorem edged_full {r : PointRecord} (h : r.edgeCount + 1 = r.prescale) :
    edged r = { r with edgeCount := 0, counter := r.counter + 1 } := if_pos (decide_eq_true h)

theorem edged_short {r : PointRecord} (h : r.edgeCount + 1 ≠ r.prescale) :
    edged r = { r with edgeCount := r.edgeCount + 1 } := if_neg (mt of_decide_eq_true h)

theorem completes_iff {r : PointRecord} : completes r = true ↔ r.edgeCount + 1 = r.prescale :=
  decide_eq_true_iff

theorem makePoint_eq_offer : State.makePoint = offer (fun _ => true) advanced := by
  funext s n
  by_cases hdue : DueOn s n
  · rw [makePoint_due hdue]
    exact (if_pos ⟨rfl, hdue⟩).symm
  · rw [makePoint_not_due hdue]
    exact (if_neg fun h => hdue h.2).symm

/-- A point record written twice holds what was written last. -/
theorem setPoint_setPoint (s : State) (n : Stream) (r r' : PointRecord) :
    (s.setPoint n r).setPoint n r' = s.setPoint n r' := by
  unfold State.setPoint
  simp only [Vector.set_set]

theorem countEdge_eq_offer : State.countEdge = offer completes edged := by
  funext s n
  unfold State.countEdge
  split
  · next hfull =>
    have hmade := completes_iff.2 hfull
    have hcleared : (s.setPoint n { s.points[n] with edgeCount := 0 }).points[n] =
        { s.points[n] with edgeCount := 0 } := setPoint_get_same s n _
    have hcounted : counted (s.setPoint n { s.points[n] with edgeCount := 0 }) n =
        s.setPoint n (edged s.points[n]) := by
      unfold counted
      rw [hcleared, setPoint_setPoint, edged_full hfull]
    have hdue : DueOn (s.setPoint n { s.points[n] with edgeCount := 0 }) n ↔ DueOn s n := by
      unfold DueOn
      rw [hcleared]
      exact Iff.rfl
    unfold offer
    by_cases h : DueOn s n
    · rw [makePoint_due (hdue.2 h), hcounted, if_pos ⟨hmade, h⟩]
    · rw [makePoint_not_due (mt hdue.1 h), hcounted, if_neg fun hboth => h hboth.2]
  · next hnot =>
    have hmade : ¬ completes s.points[n] = true := mt completes_iff.1 hnot
    unfold offer
    rw [if_neg fun hboth => hmade hboth.1, edged_short hnot]

section Offers

variable (made : PointRecord → Bool) (next : PointRecord → PointRecord)

/-- Points write point records, views, lists, entries and alerts, and nothing else. -/
theorem offer_frame (s : State) (n : Stream) :
    offer made next s n = { s with
      points := s.points.set n (next s.points[n]), views := (offer made next s n).views
      lists := (offer made next s n).lists, entries := (offer made next s n).entries
      alerts := (offer made next s n).alerts } := by
  unfold offer
  split
  · rw [apply_eq]
    rfl
  · rfl

theorem offer_points (s : State) (n k : Stream) :
    (offer made next s n).points[k] = if k = n then next s.points[k] else s.points[k] := by
  rw [offer_frame]
  by_cases hk : k = n
  · subst hk
    rw [if_pos rfl]
    exact getElem_set_same _ _ _
  · rw [if_neg hk]
    exact getElem_set_other _ _ hk

theorem foldl_offer_frame (l : List Stream) (s : State) :
    l.foldl (offer made next) s = { s with
      points := (l.foldl (offer made next) s).points, views := (l.foldl (offer made next) s).views
      lists := (l.foldl (offer made next) s).lists, entries := (l.foldl (offer made next) s).entries
      alerts := (l.foldl (offer made next) s).alerts } := by
  induction l generalizing s with
  | nil => rfl
  | cons n l ih => rw [List.foldl_cons, ih, offer_frame]

/-- Each of these streams has its record written once. -/
theorem foldl_offer_points {l : List Stream} (hl : l.Nodup) (s : State) (k : Stream) :
    (l.foldl (offer made next) s).points[k] = if k ∈ l then next s.points[k] else s.points[k] := by
  induction l generalizing s with
  | nil => rfl
  | cons n l ih =>
    obtain ⟨hn, hl⟩ := List.nodup_cons.1 hl
    rw [List.foldl_cons, ih hl, offer_points]
    by_cases hk : k = n
    · subst hk
      rw [if_neg hn, if_pos rfl, if_pos List.mem_cons_self]
    · simp only [List.mem_cons, hk, false_or, ↓reduceIte]

end Offers

/-! ### What points publish (R80 to R84) -/

theorem published_refl (s : State) {made : Stream → Prop} (h : ∀ n, ¬ made n) : Published s s made :=
  ⟨fun n hn => absurd hn (h n), fun _ _ => ⟨rfl, rfl⟩, fun n => (or_iff_left fun hn => h n hn.1).symm,
    fun _ _ => Iff.rfl, fun _ _ => rfl⟩

theorem Published.congr {s t : State} {P Q : Stream → Prop} (h : Published s t P) (hPQ : ∀ n, P n ↔ Q n) :
    Published s t Q := by
  have heq : P = Q := funext fun n => propext (hPQ n)
  exact heq ▸ h

/-- Points on some streams, then on others, publish what the points on all of them do. -/
theorem Published.trans {s u t : State} {P Q : Stream → Prop} (h : Published s u P) (h' : Published u t Q)
    (hdisjoint : ∀ n, Q n → ¬ P n) (hpoints : ∀ n, Q n → u.points[n] = s.points[n])
    (hmask : u.appliedMask = s.appliedMask) : Published s t (fun n => P n ∨ Q n) := by
  obtain ⟨happlied, hkept, hraised, halerts, hentries⟩ := h
  obtain ⟨happlied', hkept', hraised', halerts', hentries'⟩ := h'
  have hlater : ∀ n, Q n → u.views[n] = s.views[n] ∧ u.lists[n] = s.lists[n] :=
    fun n hn => hkept n fun hboth => hdisjoint n hn hboth.1
  have hdue : ∀ n, Q n → (DueOn u n ↔ DueOn s n) := by
    intro n hn
    unfold DueOn
    rw [(hlater n hn).2, hpoints n hn]
  refine ⟨?_, ?_, ?_, fun a ha => (halerts' a ha).trans (halerts a ha), ?_⟩
  · rintro n (hn | hn) hd
    · obtain ⟨hview, hlist⟩ := hkept' n fun hboth => hdisjoint n hboth.1 hn
      rw [hview, hlist]
      exact happlied n hn hd
    · obtain ⟨hview, hlist⟩ := hlater n hn
      have hlast := happlied' n hn ((hdue n hn).2 hd)
      rwa [hview, hlist] at hlast
  · intro n hn
    obtain ⟨hview, hlist⟩ := hkept n fun hboth => hn ⟨Or.inl hboth.1, hboth.2⟩
    obtain ⟨hview', hlist'⟩ := hkept' n fun hboth => hn ⟨Or.inr hboth.1, (hdue n hboth.1).1 hboth.2⟩
    exact ⟨hview'.trans hview, hlist'.trans hlist⟩
  · intro n
    rw [hraised' n, hraised n, hmask, or_assoc]
    have hlast : (Q n ∧ DueOn u n ∧ inMask s.appliedMask n = true) ↔
        (Q n ∧ DueOn s n ∧ inMask s.appliedMask n = true) :=
      and_congr_right fun hn => and_congr_left' (hdue n hn)
    rw [hlast, or_and_right]
  · intro i hi
    rw [hentries' i, hentries i]
    · exact fun n hn => hi n (Or.inl hn)
    · intro n hn hd
      rw [(hlater n hn).2]
      exact hi n (Or.inr hn) ((hdue n hn).1 hd)

/-- An apply raises APPLIED alone, where the mask names its stream (R83, R177). -/
theorem mem_apply_alerts {s : State} {n : Stream} {a : Alert} :
    a ∈ (s.apply n).alerts ↔ a ∈ s.alerts ∨ (a = .applied n ∧ inMask s.appliedMask n = true) := by
  rw [apply_eq]
  by_cases hm : inMask s.appliedMask n = true <;> simp [hm, mem_insertAlert, or_comm]

/-- The apply of stream n's list publishes it. -/
theorem published_apply {s : State} {n : Stream} (r : PointRecord) (hdue : DueOn s n) :
    Published s ((s.setPoint n r).apply n) (· = n) := by
  refine ⟨?_, ?_, ?_, ?_, ?_⟩
  · rintro k rfl -
    refine ⟨apply_view_same _ _, ?_⟩
    rw [apply_eq]
    exact getElem_set_same _ _ _
  · intro k hk
    have hne : k ≠ n := fun h => hk ⟨h, h ▸ hdue⟩
    rw [apply_eq]
    exact ⟨getElem_set_other _ _ hne, getElem_set_other _ _ hne⟩
  · intro k
    rw [mem_apply_alerts, Alert.applied.injEq]
    refine or_congr_right ⟨?_, ?_⟩
    · rintro ⟨rfl, hm⟩
      exact ⟨rfl, hdue, hm⟩
    · rintro ⟨rfl, -, hm⟩
      exact ⟨rfl, hm⟩
  · intro a ha
    rw [mem_apply_alerts]
    exact or_iff_left fun h => ha n h.1
  · intro i hi
    exact apply_unnamed (s := s.setPoint n r) (hi n rfl hdue)

section Published

variable (made : PointRecord → Bool) (next : PointRecord → PointRecord)

theorem published_offer (s : State) (n : Stream) :
    Published s (offer made next s n) (fun k => k = n ∧ made s.points[k] = true) := by
  unfold offer
  split
  · next h =>
    obtain ⟨hmade, hdue⟩ := h
    refine Published.congr (published_apply _ hdue) fun k => ⟨?_, And.left⟩
    rintro rfl
    exact ⟨rfl, hmade⟩
  · next hnot =>
    have hnone : ∀ k, ¬ ((k = n ∧ made s.points[k] = true) ∧ DueOn s k) := by
      rintro k ⟨⟨rfl, hmade⟩, hdue⟩
      exact hnot ⟨hmade, hdue⟩
    exact ⟨fun k hk hdue => absurd ⟨hk, hdue⟩ (hnone k), fun _ _ => ⟨rfl, rfl⟩,
      fun k => (or_iff_left fun ⟨hk, hdue, _⟩ => hnone k ⟨hk, hdue⟩).symm, fun _ _ => Iff.rfl, fun _ _ => rfl⟩

/-- The points made among those offered to distinct streams publish each its own stream's list. -/
theorem published_foldl_offer {l : List Stream} (hl : l.Nodup) (s : State) :
    Published s (l.foldl (offer made next) s) (fun n => n ∈ l ∧ made s.points[n] = true) := by
  induction l generalizing s with
  | nil => exact published_refl s fun n hn => List.not_mem_nil hn.1
  | cons n l ih =>
    obtain ⟨hn, hl⟩ := List.nodup_cons.1 hl
    have hpoints : ∀ k ∈ l, (offer made next s n).points[k] = s.points[k] := by
      intro k hk
      rw [offer_points, if_neg (ne_of_mem_of_not_mem hk hn)]
    have hmask : (offer made next s n).appliedMask = s.appliedMask := by rw [offer_frame]
    have hfirst := published_offer made next s n
    refine Published.congr (Published.trans hfirst (ih hl (offer made next s n)) ?_ ?_ hmask) ?_
    · rintro k ⟨hk, -⟩ ⟨rfl, -⟩
      exact hn hk
    · exact fun k hk => hpoints k hk.1
    · intro k
      have hrest : (k ∈ l ∧ made (offer made next s n).points[k] = true) ↔ (k ∈ l ∧ made s.points[k] = true) :=
        and_congr_right fun hk => by rw [hpoints k hk]
      rw [hrest, ← or_and_right, List.mem_cons]

end Published

/-! ### POINT (R96) -/

theorem reqPoint_range {s : State} {tag m : Byte} (h : 16 ≤ m.toNat) :
    reqPoint tag m s = s.respond tag 0x30 .range [] := by
  unfold reqPoint
  rw [maskOf_none h]

theorem reqPoint_ok {s : State} {tag m : Byte} {mask : StreamMask} (h : MaskByte m mask) :
    reqPoint tag m s = ((maskStreams mask).foldl State.makePoint s).respond tag 0x30 .ok
      ([m] ++ (maskStreams mask).flatMap (fun n => wordBytes (s.points[n].counter + 1))) := by
  have hcounters : (maskStreams mask).flatMap
        (fun n => wordBytes ((maskStreams mask).foldl State.makePoint s).points[n].counter) =
      (maskStreams mask).flatMap (fun n => wordBytes (s.points[n].counter + 1)) := by
    apply List.flatMap_congr
    intro n hn
    rw [makePoint_eq_offer, foldl_offer_points _ _ (nodup_maskStreams mask), if_pos hn]
    rfl
  unfold reqPoint
  simp only [maskOf_some h, maskByte_eq h, hcounters]

/-- Settles O32: each stream of the mask is offered a point, which it always makes. -/
theorem pointMakesPoints : Obligations.PointMakesPoints := by
  unfold Obligations.PointMakesPoints
  intro s tag m hidle
  have hrun : exec (.point tag m) s = .next (reqPoint tag m (taken s 4)) := next_onRequest hidle 4 _
  rw [hrun]
  refine ⟨fun h => congrArg _ (reqPoint_range h), fun mask hm => ?_⟩
  have hnodup := nodup_maskStreams mask
  refine ⟨_, congrArg _ (reqPoint_ok hm), ?frame, fun n => ?record, ?published⟩
  all_goals rw [makePoint_eq_offer]
  case frame =>
    rw [foldl_offer_frame]
    rfl
  case record =>
    rw [respond_points, foldl_offer_points _ _ hnodup]
    simp only [mem_maskStreams]
    rfl
  case published =>
    exact Published.congr (published_foldl_offer (fun _ => true) advanced hnodup (taken s 4))
      fun n => (and_iff_left rfl).trans mem_maskStreams

/-! ### BOUNDARY_EDGE (R93, R94) -/

theorem polarity_edgeTo {p : Polarity} {level : LineLevel} : p = edgeTo level ↔ (p = .rising ↔ level = .high) := by
  cases p <;> cases level <;> simp [edgeTo]

theorem mem_countingStreams {s : State} {line : Stream} {level : LineLevel} {n : Stream} :
    n ∈ s.countingStreams line level ↔
      s.points[n].source = line ∧ (s.points[n].polarity = .rising ↔ level = .high) := by
  unfold State.countingStreams
  rw [List.mem_filter, ← polarity_edgeTo]
  simp [mem_allStreams]

theorem nodup_countingStreams (s : State) (line : Stream) (level : LineLevel) :
    (s.countingStreams line level).Nodup := nodup_allStreams.filter _

theorem exec_boundaryEdge_off {s : State} {line : Stream} {level : LineLevel} (h : s.lines[line] = level) :
    exec (.boundaryEdge line level) s = .next s := if_pos h

theorem exec_boundaryEdge_on {s : State} {line : Stream} {level : LineLevel} (h : s.lines[line] ≠ level) :
    exec (.boundaryEdge line level) s =
      .next ((s.countingStreams line level).foldl State.countEdge { s with lines := s.lines.set line level }) :=
  if_neg h

/-- Settles O33: each stream that counts the edge is offered a point, which it makes at its prescale. -/
theorem edgeCountsTowardPoints : Obligations.EdgeCountsTowardPoints := by
  unfold Obligations.EdgeCountsTowardPoints
  intro s line level
  refine ⟨exec_boundaryEdge_off, fun hedge => ?_⟩
  intro counts
  have hcounts : ∀ n, n ∈ s.countingStreams line level ↔ counts n := fun n => mem_countingStreams
  have hnodup := nodup_countingStreams s line level
  refine ⟨_, exec_boundaryEdge_on hedge, ?frame, fun n => ?records, ?published⟩
  all_goals rw [countEdge_eq_offer]
  case frame => exact foldl_offer_frame _ _ _ _
  case records =>
    rw [foldl_offer_points _ _ hnodup, if_congr (hcounts n) rfl rfl]
    refine ⟨fun hn hfull => ?_, fun hn hnot => ?_, fun hn => if_neg hn⟩
    · exact (if_pos hn).trans (edged_full hfull)
    · exact (if_pos hn).trans (edged_short hnot)
  case published =>
    exact Published.congr (published_foldl_offer completes edged hnodup
      { s with lines := s.lines.set line level }) fun n => and_congr (hcounts n) completes_iff

end Sys2Proof.EditsAndPoints

/-! PROOFS. The armed law kept by what writes the Edit Unit and the Point Unit: edits, commits, withdrawals, points,
counts. -/

namespace Sys2Proof.EditsAndPoints

open Sys2Proof Sys2Proof.Machine Sys2Proof.Safety Sys2Proof.ProfileTable

/-! ### The law of one stream (R66, R79, R91) -/

/-- The armed law of a stream with this list and this point record. -/
def StreamOk (l : EditList) (r : PointRecord) : Prop :=
  (l.edits.length ≤ 8 ∧ ∀ T, l.target = some T →
    l.edits ≠ [] ∧ 1 ≤ (T - r.counter).toNat ∧ (T - r.counter).toNat ≤ 32767) ∧ PointRecordOk r

theorem armedLaw_iff {s : State} : ArmedLaw s ↔ ∀ n : Stream, StreamOk s.lists[n] s.points[n] := Iff.rfl

/-- An UNARMED list asks nothing of the counter. -/
theorem streamOk_unarmed {l : EditList} {r : PointRecord} (hlen : l.edits.length ≤ 8) (ht : l.target = none)
    (hr : PointRecordOk r) : StreamOk l r :=
  ⟨⟨hlen, fun T hT => by rw [ht] at hT; cases hT⟩, hr⟩

namespace StreamOk

variable {l : EditList} {r r' : PointRecord}

theorem length_le (h : StreamOk l r) : l.edits.length ≤ 8 := h.1.1

theorem record (h : StreamOk l r) : PointRecordOk r := h.2

/-- Shorter lists, UNARMED, keep the law. -/
theorem unarm (h : StreamOk l r) {es : List Edit} (hlen : es.length ≤ l.edits.length) :
    StreamOk { edits := es, target := none } r := streamOk_unarmed (hlen.trans h.length_le) rfl h.record

/-- A stream armed for a target that passed its checks. -/
theorem arm (h : StreamOk l r) {T : Word} (hedits : l.edits ≠ []) (hlow : 1 ≤ (T - r.counter).toNat)
    (hhigh : (T - r.counter).toNat ≤ 32767) : StreamOk { l with target := some T } r :=
  ⟨⟨h.length_le, fun U hU => by cases hU; exact ⟨hedits, hlow, hhigh⟩⟩, h.record⟩

/-- A record rewritten with the counter it had. -/
theorem rewrite (h : StreamOk l r) (hr : PointRecordOk r') (hc : r'.counter = r.counter) : StreamOk l r' := by
  obtain ⟨harmed, -⟩ := h
  refine ⟨?_, hr⟩
  rw [hc]
  exact harmed

/-- A point that does not make the target brings it one nearer (R79). -/
theorem count (h : StreamOk l r) (hr : PointRecordOk r') (hc : r'.counter = r.counter + 1)
    (hnot : l.target ≠ some (r.counter + 1)) : StreamOk l r' := by
  obtain ⟨⟨hlen, harmed⟩, -⟩ := h
  refine ⟨⟨hlen, fun T hT => ?_⟩, hr⟩
  obtain ⟨hedits, hlow, hhigh⟩ := harmed T hT
  have hne : T ≠ r.counter + 1 := fun heq => hnot (heq ▸ hT)
  rw [hc]
  refine ⟨hedits, ?_, ?_⟩ <;> bv_omega

end StreamOk

/-! ### Steps that keep the law -/

/-- From s to t the armed law is kept. -/
def KeepsArmed (s t : State) : Prop := ArmedLaw s → ArmedLaw t

namespace KeepsArmed

variable {s t u : State}

theorem refl (s : State) : KeepsArmed s s := id

theorem trans (h : KeepsArmed s t) (h' : KeepsArmed t u) : KeepsArmed s u := h' ∘ h

/-- The law goes by lists and point records alone. -/
theorem of_same (hl : t.lists = s.lists) (hp : t.points = s.points) : KeepsArmed s t := by
  intro h
  rw [armedLaw_iff, hl, hp]
  exact h

/-- Each stream judged for itself. -/
theorem of_streams (h : ∀ n : Stream, StreamOk s.lists[n] s.points[n] → StreamOk t.lists[n] t.points[n]) :
    KeepsArmed s t := fun hs n => h n (hs n)

theorem foldl {α : Type} {f : State → α → State} (hf : ∀ s a, KeepsArmed s (f s a)) (l : List α) (s : State) :
    KeepsArmed s (l.foldl f s) := by
  induction l generalizing s with
  | nil => exact refl s
  | cons a l ih => exact (hf s a).trans (ih _)

theorem setList {n : Stream} {l : EditList} (h : StreamOk s.lists[n] s.points[n] → StreamOk l s.points[n]) :
    KeepsArmed s (s.setList n l) := by
  refine of_streams fun k hk => ?_
  by_cases hkn : k = n
  · subst hkn
    rw [setList_get_same]
    exact h hk
  · rw [setList_get_other _ _ _ _ hkn]
    exact hk

theorem setPoint {n : Stream} {r : PointRecord} (h : StreamOk s.lists[n] s.points[n] → StreamOk s.lists[n] r) :
    KeepsArmed s (s.setPoint n r) := by
  refine of_streams fun k hk => ?_
  by_cases hkn : k = n
  · subst hkn
    rw [setPoint_get_same]
    exact h hk
  · rw [setPoint_get_other _ _ _ _ hkn]
    exact hk

theorem answer (s : State) (tag code : Byte) (r : Result) (d : List Byte) : KeepsArmed s (s.respond tag code r d) :=
  of_same rfl rfl

theorem respond (h : KeepsArmed s t) (tag code : Byte) (r : Result) (d : List Byte) :
    KeepsArmed s (t.respond tag code r d) := h.trans (answer t tag code r d)

/-! ### Edits (R66, R69, R72) -/

/-- An edit joins an UNARMED list that is not full. -/
theorem acceptEdit (tag code : Byte) {n : Stream} (e : Edit) (hfull : s.lists[n].edits.length < 8)
    (ht : s.lists[n].target = none) : KeepsArmed s (s.acceptEdit tag code n e) := by
  have hjoined : KeepsArmed s (s.setList n { s.lists[n] with edits := s.lists[n].edits ++ [e] }) := by
    refine setList fun h => streamOk_unarmed ?_ ht h.record
    rw [List.length_append]
    exact hfull
  have hpending : ∀ v : State, KeepsArmed v (v.takePending e.handle.index) := fun _ => of_same rfl rfl
  exact (hjoined.trans (hpending _)).respond tag code _ _

/-- The shared checks of the edits leave lists that hold 8 edits alone (R69). -/
theorem length_of_checkEdit {b : Byte} {h : RawHandle} {n : Stream} {c : ViewConfig} {i : EntryIndex}
    (hc : s.checkEdit b h = .ok (n, c, i)) : s.lists[n].edits.length < 8 := by
  unfold State.checkEdit at hc
  split at hc
  · cases hc
  · split at hc
    · cases hc
    · split at hc
      · cases hc
      · split at hc
        · cases hc
        · next hlen =>
          split at hc
          · cases hc
          · cases hc
            exact Nat.not_le.1 hlen

/-- An edit that passed the shared checks, accepted. -/
theorem accepted (tag code : Byte) {b : Byte} {h : RawHandle} {n : Stream} {c : ViewConfig} {i : EntryIndex} (e : Edit)
    (hc : s.checkEdit b h = .ok (n, c, i)) : KeepsArmed s (s.acceptEdit tag code n e) := by
  obtain ⟨-, htarget, -⟩ := of_checkEdit hc
  exact acceptEdit tag code e (length_of_checkEdit hc) htarget

theorem attach (tag stream : Byte) (h : RawHandle) (key plateau : Word) (s : State) :
    KeepsArmed s (reqAttach tag stream h key plateau s) := by
  unfold reqAttach
  split
  · exact answer s tag _ _ _
  · next hc =>
    split
    · exact answer s tag _ _ _
    · split
      · exact answer s tag _ _ _
      · split
        · exact answer s tag _ _ _
        · split
          · exact answer s tag _ _ _
          · exact accepted tag _ _ hc

theorem detach (tag stream : Byte) (h : RawHandle) (s : State) : KeepsArmed s (reqDetach tag stream h s) := by
  unfold reqDetach
  split
  · exact answer s tag _ _ _
  · next hc =>
    split
    · exact accepted tag _ _ hc
    · exact answer s tag _ _ _

theorem move (tag stream : Byte) (h : RawHandle) (key plateau : Word) (s : State) :
    KeepsArmed s (reqMove tag stream h key plateau s) := by
  unfold reqMove
  split
  · exact answer s tag _ _ _
  · next hc =>
    split
    · exact accepted tag _ _ hc
    · exact answer s tag _ _ _

/-! ### Commits, withdrawals, discards (R74, R85, R87) -/

/-- A stream that COMMIT's checks pass has edits, and its target is 1 to 32767 points ahead. -/
theorem ahead_of_checkCommit {t : Target} {n : Stream} {T : Word} (h : s.checkCommit t n = .ok T) :
    s.lists[n].edits ≠ [] ∧ 1 ≤ (T - s.points[n].counter).toNat ∧ (T - s.points[n].counter).toNat ≤ 32767 := by
  obtain ⟨htarget, c, hcfg, hlayout⟩ := of_checkCommit h
  unfold State.checkCommit at h
  simp only [hcfg, htarget, hlayout] at h
  split at h
  · cases h
  · next hedits =>
    split at h
    · cases h
    · split at h
      · next hdistance =>
        cases h
        exact ⟨hedits, hdistance⟩
      · cases h

/-- Arming a stream leaves the edits of every list. -/
theorem arm_edits (s : State) (n k : Stream) (T : Word) : (s.arm n T).lists[k].edits = s.lists[k].edits := by
  by_cases hk : k = n
  · subst hk
    rw [State.arm, setList_get_same]
  · rw [State.arm, setList_get_other _ _ _ _ hk]

/-- Streams armed, each for a target that it passed its checks with. -/
theorem arm {l : List (Stream × Word)} (h : ∀ p ∈ l, s.lists[p.1].edits ≠ [] ∧
      1 ≤ (p.2 - s.points[p.1].counter).toNat ∧ (p.2 - s.points[p.1].counter).toNat ≤ 32767) :
    KeepsArmed s (l.foldl (fun s p => s.arm p.1 p.2) s) := by
  induction l generalizing s with
  | nil => exact refl s
  | cons p l ih =>
    obtain ⟨⟨hedits, hlow, hhigh⟩, hrest⟩ := List.forall_mem_cons.1 h
    have hp : KeepsArmed s (s.arm p.1 p.2) := setList fun hok => hok.arm hedits hlow hhigh
    refine hp.trans (ih fun q hq => ?_)
    rw [arm_edits]
    exact hrest q hq

theorem commit (tag mask kind : Byte) (n : Word) (s : State) : KeepsArmed s (reqCommit tag mask kind n s) := by
  unfold reqCommit
  split
  · split
    · exact answer s tag _ _ _
    · split
      · exact answer s tag _ _ _
      · next hchecks =>
        exact (arm fun p hp => ahead_of_checkCommit (of_checkCommits hchecks p hp)).respond tag _ _ _
  · exact answer s tag _ _ _

theorem disarm (s : State) (n : Stream) : KeepsArmed s (s.disarm n) := setList fun h => h.unarm (le_refl _)

theorem withdraw (tag mask : Byte) (s : State) : KeepsArmed s (reqWithdraw tag mask s) := by
  unfold reqWithdraw
  split
  · exact answer s tag _ _ _
  · exact (foldl disarm _ s).respond tag _ _ _

theorem discard (tag mask : Byte) (s : State) : KeepsArmed s (reqDiscard tag mask s) := by
  unfold reqDiscard
  split
  · exact answer s tag _ _ _
  · next m _ =>
    refine KeepsArmed.respond (of_streams fun n hn => ?_) tag _ _ _
    have hpoints : ((s.discardable m).foldl State.emptyList s).points = s.points := by rw [foldl_emptyList_frame]
    rw [hpoints, foldl_emptyList_lists]
    split
    · next hin =>
      obtain ⟨-, htarget, -⟩ := mem_discardable.1 hin
      exact streamOk_unarmed (Nat.zero_le 8) htarget hn.record
    · exact hn

/-! ### Points (R79, R80, R91, R94 to R96) -/

/-- What the law asks of the record that an offered point leaves: the ranges of R91, and a count one higher exactly
where a point is made. -/
structure PointWrite (made : PointRecord → Bool) (next : PointRecord → PointRecord) : Prop where
  ranges : ∀ r, PointRecordOk r → PointRecordOk (next r)
  counter : ∀ r, (next r).counter = if made r = true then r.counter + 1 else r.counter

theorem pointWrite_advanced : PointWrite (fun _ => true) advanced := ⟨fun _ h => h, fun _ => rfl⟩

theorem pointWrite_edged : PointWrite completes edged where
  ranges r h := by
    obtain ⟨hlow, hhigh, hcount⟩ := h
    by_cases hfull : r.edgeCount + 1 = r.prescale
    · rw [edged_full hfull]
      exact ⟨hlow, hhigh, hlow⟩
    · rw [edged_short hfull]
      exact ⟨hlow, hhigh, Nat.lt_of_le_of_ne hcount hfull⟩
  counter r := by
    by_cases hfull : r.edgeCount + 1 = r.prescale
    · rw [edged_full hfull, if_pos (completes_iff.2 hfull)]
    · rw [edged_short hfull, if_neg (mt completes_iff.1 hfull)]

/-- A list due is emptied and disarmed; any other target comes one nearer, or stays where it was. -/
theorem offer {made : PointRecord → Bool} {next : PointRecord → PointRecord} (hw : PointWrite made next) (s : State)
    (n : Stream) : KeepsArmed s (offer made next s n) := by
  have hcounter := hw.counter s.points[n]
  unfold EditsAndPoints.offer
  split
  · refine of_streams fun k hk => ?_
    rw [apply_eq]
    by_cases hkn : k = n
    · subst hkn
      show StreamOk (s.lists.set k _)[k] (s.setPoint k _).points[k]
      rw [getElem_set_same, setPoint_get_same]
      exact streamOk_unarmed (Nat.zero_le 8) rfl (hw.ranges _ hk.record)
    · show StreamOk (s.lists.set n _)[k] (s.setPoint n _).points[k]
      rw [getElem_set_other _ _ hkn, setPoint_get_other _ _ _ _ hkn]
      exact hk
  · next hnot =>
    refine setPoint fun h => ?_
    by_cases hmade : made s.points[n] = true
    · rw [if_pos hmade] at hcounter
      exact h.count (hw.ranges _ h.record) hcounter fun hdue => hnot ⟨hmade, hdue⟩
    · rw [if_neg hmade] at hcounter
      exact h.rewrite (hw.ranges _ h.record) hcounter

theorem point (tag mask : Byte) (s : State) : KeepsArmed s (reqPoint tag mask s) := by
  unfold reqPoint
  split
  · exact answer s tag _ _ _
  · refine KeepsArmed.respond ?_ tag _ _ _
    rw [makePoint_eq_offer]
    exact foldl (offer pointWrite_advanced) _ s

theorem boundaryEdge (line : Stream) (level : LineLevel) (s : State) :
    KeepsArmed s ((s.countingStreams line level).foldl State.countEdge { s with lines := s.lines.set line level }) := by
  have hline : KeepsArmed s { s with lines := s.lines.set line level } := of_same rfl rfl
  rw [countEdge_eq_offer]
  exact hline.trans (foldl (offer pointWrite_edged) _ _)

/-! ### SET_POINTS and CLEAR_COUNTS (R98 to R100) -/

theorem setPoints (tag stream source polarity prescale : Byte) (s : State) :
    KeepsArmed s (reqSetPoints tag stream source polarity prescale s) := by
  unfold reqSetPoints
  split
  · split
    · exact answer s tag _ _ _
    · next hrange =>
      obtain ⟨hlow, hhigh⟩ := not_or.1 hrange
      split
      · exact answer s tag _ _ _
      · refine KeepsArmed.respond (setPoint fun h => ?_) tag _ _ _
        refine h.rewrite ?_ rfl
        exact ⟨Nat.not_lt.1 hlow, Nat.not_lt.1 hhigh, Nat.not_lt.1 hlow⟩
  · exact answer s tag _ _ _

/-- A count cleared leaves the ranges of the record; its stream must be UNARMED. -/
theorem clearCount {n : Stream} (ht : s.lists[n].target = none) : KeepsArmed s (s.clearCount n) := by
  refine setPoint fun h => ?_
  obtain ⟨hlow, hhigh, -⟩ := h.record
  exact streamOk_unarmed h.length_le ht ⟨hlow, hhigh, hlow⟩

theorem foldl_clearCount {l : List Stream} (hl : ∀ n ∈ l, s.lists[n].target = none) :
    KeepsArmed s (l.foldl State.clearCount s) := by
  induction l generalizing s with
  | nil => exact refl s
  | cons n l ih =>
    obtain ⟨hn, hl⟩ := List.forall_mem_cons.1 hl
    exact (clearCount hn).trans (ih hl)

theorem clearCounts (tag mask : Byte) (s : State) : KeepsArmed s (reqClearCounts tag mask s) := by
  unfold reqClearCounts
  split
  · exact answer s tag _ _ _
  · refine KeepsArmed.respond (foldl_clearCount fun n hn => ?_) tag _ _ _
    exact of_decide_eq_true (List.mem_filter.1 hn).2

end KeepsArmed

end Sys2Proof.EditsAndPoints

/-! PROOFS. Every step keeps the armed law: what leaves the Edit Unit and the Point Unit alone, and the rows one by
one. -/

namespace Sys2Proof.EditsAndPoints

open Sys2Proof Sys2Proof.Machine Sys2Proof.Safety Sys2Proof.ProfileTable

namespace KeepsArmed

variable {s t u : State}

/-! ### Entries, knots, ports, engine -/

theorem reportDamage (s : State) (i : EntryIndex) : KeepsArmed s (s.reportDamage i) := by
  rw [reportDamage_eq]
  unfold damageReported
  split <;> exact of_same rfl rfl

theorem of_serves (h : Serves s t) : KeepsArmed s t := of_same h.lists h.points

theorem granted (s : State) (i : EntryIndex) (pr : Profile) : KeepsArmed s (granted s i pr) := by
  rw [granted_frame]
  exact of_same rfl rfl

theorem writeKnots (s : State) (i : EntryIndex) (first : Nat) (ks : List Knot) :
    KeepsArmed s (s.writeKnots i first ks) := by
  rw [writeKnots_frame]
  exact of_same rfl rfl

theorem loadKnots (s : State) (i : EntryIndex) (f : SlotFields) (g : Geometry) (upsets : List LoadUpset) :
    KeepsArmed s (s.loadKnots i f g upsets) := by
  rw [loadKnots_frame]
  exact of_same rfl rfl

theorem endJob (h : KeepsArmed s t) (tag code : Byte) (r : Result) (d : List Byte) :
    KeepsArmed s (t.endJob tag code r d) := h.trans (of_same rfl rfl)

theorem freeEntry (s : State) (i : EntryIndex) : KeepsArmed s (s.freeEntry i) := of_same rfl rfl

/-! ### Requests of the other blocks -/

theorem create (tag columns rows channels format : Byte) (label : Word) (s : State) :
    KeepsArmed s (reqCreate tag columns rows channels format label s) := by
  unfold reqCreate
  split
  · next g f _ _ =>
    rcases allocate_cases s { origin := .host, geometry := g, format := f, label := label } with
      ⟨r, ha⟩ | ⟨i, -, -, ha⟩
    · rw [ha]
      exact answer s tag _ _ _
    · rw [ha]
      exact (granted s i _).respond tag _ _ _
  · exact answer s tag _ _ _

theorem delete (tag : Byte) (h : RawHandle) (s : State) : KeepsArmed s (reqDelete tag h s) := by
  unfold reqDelete
  repeat' split
  all_goals exact of_same rfl rfl

theorem queryProfile (tag : Byte) (h : RawHandle) (s : State) : KeepsArmed s (reqQueryProfile tag h s) := by
  unfold reqQueryProfile
  dsimp only
  repeat' split
  all_goals exact answer s tag _ _ _

theorem writeKnotsRequest (tag : Byte) (h : RawHandle) (first : Word) (count : Byte) (ks : List Word) (s : State) :
    KeepsArmed s (reqWriteKnots tag h first count ks s) := by
  unfold reqWriteKnots
  split
  · exact answer s tag _ _ _
  · split
    · exact answer s tag _ _ _
    · split
      · exact answer s tag _ _ _
      · split
        · exact answer s tag _ _ _
        · split
          · exact answer s tag _ _ _
          · split
            · exact answer s tag _ _ _
            · exact (writeKnots s _ _ _).respond tag _ _ _

theorem readKnots (tag : Byte) (h : RawHandle) (first : Word) (count : Byte) (s : State) :
    KeepsArmed s (reqReadKnots tag h first count s) := by
  unfold reqReadKnots
  split
  · exact answer s tag _ _ _
  · split
    · exact answer s tag _ _ _
    · split
      · exact answer s tag _ _ _
      · split
        · exact answer s tag _ _ _
        · exact (reportDamage s _).respond tag _ _ _

theorem finish (tag : Byte) (h : RawHandle) (crc : Word) (s : State) : KeepsArmed s (reqFinish tag h crc s) := by
  unfold reqFinish
  repeat' split
  all_goals exact of_same rfl rfl

theorem verify (tag : Byte) (h : RawHandle) (s : State) : KeepsArmed s (reqVerify tag h s) := by
  unfold reqVerify
  repeat' split
  all_goals exact of_same rfl rfl

theorem configureView (tag stream columns rows channels format : Byte) (s : State) :
    KeepsArmed s (reqConfigureView tag stream columns rows channels format s) := by
  unfold reqConfigureView
  repeat' split
  all_goals exact of_same rfl rfl

theorem queryView (tag stream : Byte) (s : State) : KeepsArmed s (reqQueryView tag stream s) := by
  unfold reqQueryView
  split <;> exact answer s tag _ _ _

theorem queryEdits (tag stream : Byte) (s : State) : KeepsArmed s (reqQueryEdits tag stream s) := by
  unfold reqQueryEdits
  split <;> exact answer s tag _ _ _

theorem setPort (tag port enable stallLimit : Byte) (s : State) :
    KeepsArmed s (reqSetPort tag port enable stallLimit s) := by
  unfold reqSetPort
  split
  · next p e _ _ =>
    dsimp only
    refine KeepsArmed.respond (of_serves ?_) tag _ _ _
    have hmod := Serves.modPort s p (fun x => { x with enabled := e, stallLimit := stallLimit })
    split
    · exact hmod.trans (Serves.disablePort _ p)
    · exact hmod
  · exact answer s tag _ _ _

theorem queryPort (tag port : Byte) (s : State) : KeepsArmed s (reqQueryPort tag port s) := by
  unfold reqQueryPort
  split <;> exact answer s tag _ _ _

theorem programBaseline (tag slot : Byte) (h : RawHandle) (key plateau : Word) (s : State) :
    KeepsArmed s (reqProgramBaseline tag slot h key plateau s) := by
  unfold reqProgramBaseline
  repeat' split
  all_goals exact of_same rfl rfl

theorem restoreBaseline (tag slot : Byte) (s : State) : KeepsArmed s (reqRestoreBaseline tag slot s) := by
  unfold reqRestoreBaseline
  split
  · exact answer s tag _ _ _
  · next n _ =>
    split
    · exact answer s tag _ _ _
    · exact answer s tag _ _ _
    · next f g fmt _ =>
      rcases allocate_cases s (slotProfile n f g fmt) with ⟨r, ha⟩ | ⟨i, -, -, ha⟩
      · rw [ha]
        exact answer s tag _ _ _
      · rw [ha]
        exact (granted s i _).trans (of_same rfl rfl)

theorem querySlot (tag slot : Byte) (s : State) : KeepsArmed s (reqQuerySlot tag slot s) := by
  unfold reqQuerySlot
  split <;> exact answer s tag _ _ _

theorem setGroup (tag address enable acknowledger : Byte) (s : State) :
    KeepsArmed s (reqSetGroup tag address enable acknowledger s) := by
  unfold reqSetGroup
  repeat' split
  all_goals exact of_same rfl rfl

theorem setAlerts (tag mask : Byte) (watermark : Word) (s : State) :
    KeepsArmed s (reqSetAlerts tag mask watermark s) := by
  unfold reqSetAlerts
  repeat' split
  all_goals exact of_same rfl rfl

theorem readAlerts (tag : Byte) (s : State) : KeepsArmed s (reqReadAlerts tag s) := of_same rfl rfl

theorem runRequest (tag : Byte) (r : Request) (s : State) : KeepsArmed s (runRequest tag r s) := by
  cases r with
  | create cols rows ch f l => exact create tag cols rows ch f l s
  | delete h => exact delete tag h s
  | queryProfile h => exact queryProfile tag h s
  | queryStore => exact answer s tag _ _ _
  | writeKnots h first count ks => exact writeKnotsRequest tag h first count ks s
  | readKnots h first count => exact readKnots tag h first count s
  | finish h crc => exact finish tag h crc s
  | verify h => exact verify tag h s
  | configureView n cols rows ch f => exact configureView tag n cols rows ch f s
  | queryView n => exact queryView tag n s
  | attach n h k p => exact attach tag n h k p s
  | detach n h => exact detach tag n h s
  | move n h k p => exact move tag n h k p s
  | commit m kind n => exact commit tag m kind n s
  | withdraw m => exact withdraw tag m s
  | discard m => exact discard tag m s
  | queryEdits n => exact queryEdits tag n s
  | point m => exact point tag m s
  | setPoints n src pol pre => exact setPoints tag n src pol pre s
  | clearCounts m => exact clearCounts tag m s
  | queryPoints => exact answer s tag _ _ _
  | setPort p e l => exact setPort tag p e l s
  | queryPort p => exact queryPort tag p s
  | programBaseline n h k p => exact programBaseline tag n h k p s
  | restoreBaseline n => exact restoreBaseline tag n s
  | querySlot n => exact querySlot tag n s
  | setGroup a e k => exact setGroup tag a e k s
  | setAlerts m w => exact setAlerts tag m w s
  | readAlerts => exact readAlerts tag s

/-! ### Writes to the part (R165 to R174) -/

theorem onMessage {f : State → State} (message : List Byte) (hf : ∀ u : State, KeepsArmed u (f u)) (s : State) :
    KeepsArmed s (s.onMessage message f) := by
  have hwindow : ∀ acks, KeepsArmed s (s.selectWindow .request acks) := fun _ => of_same rfl rfl
  unfold State.onMessage
  split
  · exact (hwindow _).trans (hf _)
  · exact hwindow _
  · exact hwindow _

/-- A judged message answered by a run that keeps the law. -/
theorem answerJudged {run : Byte → Request → State → State} (hrun : ∀ tag r, KeepsArmed s (run tag r s)) (j : Judged) :
    KeepsArmed s (s.answerJudged run j) := by
  cases j with
  | format code tag => exact answer s tag code _ _
  | unknown code tag => exact answer s tag code _ _
  | taken tag r => exact hrun tag r

theorem writeRequest (s : State) (message : List Byte) : KeepsArmed s (s.writeRequest message) := by
  unfold State.writeRequest
  split
  · exact of_same rfl rfl
  · exact onMessage _ (fun u => answerJudged (fun tag r => runRequest tag r u) _) s

theorem takeAbort (s : State) : KeepsArmed s s.takeAbort := by
  unfold State.takeAbort
  split <;> exact of_same rfl rfl

theorem primaryWrite (s : State) (bytes : List Byte) : KeepsArmed s (s.primaryWrite bytes) := by
  have hwindow : ∀ w acks, KeepsArmed s (s.selectWindow w acks) := fun _ _ => of_same rfl rfl
  unfold State.primaryWrite
  split
  · exact refl s
  · split
    · exact writeRequest s _
    · split
      · exact hwindow _ _
      · split
        · split
          · exact hwindow _ _
          · exact (hwindow _ _).trans (takeAbort _)
        · split <;> exact of_same rfl rfl

theorem runGroupRequest (tag : Byte) (r : Request) (s : State) : KeepsArmed s (runGroupRequest tag r s) := by
  unfold Machine.runGroupRequest
  split
  · exact commit tag _ _ _ s
  · exact withdraw tag _ s
  · exact discard tag _ s
  · exact point tag _ s
  · exact clearCounts tag _ s
  · exact answer s tag _ _ _

theorem closeGroupWrite (s : State) (message : List Byte) : KeepsArmed s (s.closeGroupWrite message) := by
  unfold State.closeGroupWrite
  split
  · exact answerJudged (fun tag r => runGroupRequest tag r s) _
  · exact of_same rfl rfl
  · exact of_same rfl rfl

/-! ### The ends of long requests (R40, R43, R155 to R159) -/

theorem endFinish (tag : Byte) (i : EntryIndex) (crc : Word) (s : State) : KeepsArmed s (endFinish tag i crc s) := by
  unfold Machine.endFinish
  repeat' split
  all_goals exact of_same rfl rfl

theorem endVerify (tag : Byte) (i : EntryIndex) (s : State) : KeepsArmed s (endVerify tag i s) := by
  unfold Machine.endVerify
  split
  · exact (reportDamage s i).endJob _ _ _ _
  · split
    · exact (refl s).endJob _ _ _ _
    · exact (reportDamage s i).endJob _ _ _ _

theorem endScan (tag : Byte) (n : Stream) (i : EntryIndex) (key plateau : Word) (s : State) :
    KeepsArmed s (endScan tag n i key plateau s) := by
  unfold Machine.endScan
  split
  · exact (reportDamage s i).endJob _ _ _ _
  · split
    · exact (reportDamage s i).endJob _ _ _ _
    · split <;> exact of_same rfl rfl

theorem endWrite (recorded : Bool) (tag : Byte) (n : Stream) (i : EntryIndex) (key plateau : Word) (bases : List Knot)
    (s : State) : KeepsArmed s (endWrite recorded tag n i key plateau bases s) := by
  unfold Machine.endWrite
  split
  · exact (reportDamage s i).trans (of_same rfl rfl)
  · exact of_same rfl rfl

theorem endProgram (writesTook recorded : Bool) (tag : Byte) (n : Stream) (bases : List Knot) (s : State) :
    KeepsArmed s (endProgram writesTook recorded tag n bases s) := by
  unfold Machine.endProgram
  split <;> exact of_same rfl rfl

theorem endRestore (upsets : List LoadUpset) (tag : Byte) (n : Stream) (i : EntryIndex) (s : State) :
    KeepsArmed s (endRestore upsets tag n i s) := by
  unfold Machine.endRestore
  split
  · next f g _ _ =>
    refine (loadKnots s i f g upsets).trans ?_
    dsimp only
    repeat' split
    all_goals exact of_same rfl rfl
  · exact refl s

/-! ### The start-up load and the device reset (R161 to R163) -/

theorem beginLoad (s : State) (n : Stream) : KeepsArmed s (s.beginLoad n) := by
  rw [beginLoad_frame]
  exact of_same rfl rfl

theorem started (s : State) : KeepsArmed s s.started := by
  rw [started_frame]
  exact of_same rfl rfl

theorem completeLoad (s : State) (n : Stream) (entry : Option EntryIndex) (upsets : List LoadUpset) :
    KeepsArmed s (s.completeLoad n entry upsets) := by
  unfold State.completeLoad
  split
  · exact refl s
  · exact of_same rfl rfl
  · next f g fmt _ =>
    split
    · exact of_same rfl rfl
    · next i =>
      refine (loadKnots s i f g upsets).trans ?_
      dsimp only
      repeat' split
      all_goals exact of_same rfl rfl

/-- Lists and records right after a device reset meet the law. -/
theorem blocksReset (s : State) (moment : ResetMoment) (straps : BitVec 2) :
    KeepsArmed s (blocksReset s moment straps) := by
  have hlists : (ProfileTable.blocksReset s moment straps).lists = State.reset.lists := rfl
  have hpoints : (ProfileTable.blocksReset s moment straps).points = State.reset.points := rfl
  exact fun _ => of_same hlists hpoints armedLaw_reset

end KeepsArmed

/-! ### Outcomes -/

/-- Whatever state the outcome gives, the armed law is kept. -/
def OutcomeKeepsArmed (s : State) (o : Host.Outcome State Fault Refusal) : Prop := ∀ t, o = .next t → KeepsArmed s t

theorem KeepsArmed.outcome {s t : State} (h : KeepsArmed s t) : OutcomeKeepsArmed s (.next t) := by
  intro u hu
  cases hu
  exact h

namespace OutcomeKeepsArmed

variable {s : State}

theorem refl (s : State) : OutcomeKeepsArmed s (.next s) := (KeepsArmed.refl s).outcome

/-- A request row. -/
theorem onRequest {f : State → State} (len : Nat) (hf : ∀ u : State, KeepsArmed u (f u)) :
    OutcomeKeepsArmed s (.next (s.onRequest len f)) := by
  have hwindow : ∀ acks, KeepsArmed s (s.selectWindow .request acks) := fun _ => KeepsArmed.of_same rfl rfl
  refine KeepsArmed.outcome ?_
  unfold State.onRequest
  split
  · exact (hwindow _).trans (hf _)
  · exact hwindow _
  · exact hwindow _

theorem groupWrite (address : BitVec 7) (others : OtherAcknowledgers) (bytes : List Byte) :
    OutcomeKeepsArmed s (execGroupWrite address others bytes s) := by
  have hacks : ∀ acks, KeepsArmed s { s with acks := acks } := fun _ => KeepsArmed.of_same rfl rfl
  unfold execGroupWrite
  split
  · split
    · exact (hacks _).outcome
    · split
      · exact ((hacks _).trans (KeepsArmed.closeGroupWrite _ _)).outcome
      · exact (hacks _).outcome
  · exact refl s

theorem finishComplete : OutcomeKeepsArmed s (execFinishComplete s) := by
  unfold execFinishComplete
  split
  · exact (KeepsArmed.endFinish _ _ _ s).outcome
  · exact refl s

theorem verifyComplete : OutcomeKeepsArmed s (execVerifyComplete s) := by
  unfold execVerifyComplete
  split
  · exact (KeepsArmed.endVerify _ _ s).outcome
  · exact refl s

theorem scanEnd : OutcomeKeepsArmed s (execScanEnd s) := by
  unfold execScanEnd
  split
  · exact (KeepsArmed.endScan _ _ _ _ _ s).outcome
  · exact refl s

theorem programWriteEnd (recorded : Bool) : OutcomeKeepsArmed s (execProgramWriteEnd recorded s) := by
  unfold execProgramWriteEnd
  split
  · exact (KeepsArmed.endWrite _ _ _ _ _ _ _ s).outcome
  · exact refl s

theorem programVerifyEnd (writesTook recorded : Bool) :
    OutcomeKeepsArmed s (execProgramVerifyEnd writesTook recorded s) := by
  unfold execProgramVerifyEnd
  split
  · exact (KeepsArmed.endProgram _ _ _ _ _ s).outcome
  · exact refl s

theorem restoreComplete (upsets : List LoadUpset) : OutcomeKeepsArmed s (execRestoreComplete upsets s) := by
  unfold execRestoreComplete
  split
  · exact (KeepsArmed.endRestore _ _ _ _ s).outcome
  · exact refl s

theorem boundaryEdge (line : Stream) (level : LineLevel) : OutcomeKeepsArmed s (execBoundaryEdge line level s) := by
  unfold execBoundaryEdge
  split
  · exact refl s
  · exact (KeepsArmed.boundaryEdge line level s).outcome

theorem grant : OutcomeKeepsArmed s (execGrant s) := by
  unfold execGrant
  repeat' split
  all_goals exact (KeepsArmed.of_same rfl rfl).outcome

theorem handover : OutcomeKeepsArmed s (execHandover s) := by
  unfold execHandover
  split
  · exact refl s
  · split
    · exact refl s
    · split
      · exact (KeepsArmed.of_serves (Serves.handOver s _ _ _ _)).outcome
      · exact refl s

theorem faultReport : OutcomeKeepsArmed s (execFaultReport s) := by
  have hreported : ∀ i, KeepsArmed s { s.reportDamage i with datapath := none } :=
    fun i => (KeepsArmed.reportDamage s i).trans (KeepsArmed.of_same rfl rfl)
  unfold execFaultReport
  split
  · exact refl s
  · split
    · exact refl s
    · split
      · exact refl s
      · refine KeepsArmed.outcome ?_
        unfold State.reportFault
        dsimp only
        split
        · exact (hreported _).trans (KeepsArmed.of_serves (Serves.finishReset _ _))
        · exact (hreported _).trans (KeepsArmed.of_serves (Serves.endHead _ _ _))

theorem stallExpiry (p : Stream) : OutcomeKeepsArmed s (execStallExpiry p s) := by
  unfold execStallExpiry
  split
  · exact (KeepsArmed.of_serves (Serves.expire s p)).outcome
  · exact refl s

theorem deviceReset (moment : ResetMoment) (straps : BitVec 2) :
    OutcomeKeepsArmed s (execDeviceReset moment straps s) :=
  ((KeepsArmed.blocksReset s moment straps).trans (KeepsArmed.beginLoad _ 0)).outcome

theorem slotLoad (slot : Stream) (upsets : List LoadUpset) : OutcomeKeepsArmed s (execSlotLoad slot upsets s) := by
  unfold execSlotLoad
  split
  · next n entry _ =>
    have hload := KeepsArmed.completeLoad s n entry upsets
    split
    · split
      · exact (hload.trans (KeepsArmed.started _)).outcome
      · exact (hload.trans (KeepsArmed.beginLoad _ _)).outcome
    · exact refl s
  · exact refl s

theorem received (s : State) (p : Stream) (bytes : List Byte) : OutcomeKeepsArmed s (.next (s.receive p bytes)) :=
  (KeepsArmed.of_serves (Serves.receive s p bytes)).outcome

/-! ### Every command -/

/-- What each command does to lists and point records keeps the law, row by row. -/
theorem exec (r : Instr) (s : State) : OutcomeKeepsArmed s (exec r s) := by
  cases r with
  | create tag cols rows ch f l => exact onRequest 9 (KeepsArmed.create tag cols rows ch f l)
  | delete tag h => exact onRequest 5 (KeepsArmed.delete tag h)
  | queryProfile tag h => exact onRequest 5 (KeepsArmed.queryProfile tag h)
  | queryStore tag => exact onRequest 3 (fun u => KeepsArmed.answer u tag _ _ _)
  | writeKnots tag h first count ks =>
    exact (KeepsArmed.onMessage _ (KeepsArmed.writeKnotsRequest tag h first count ks) s).outcome
  | readKnots tag h first count => exact onRequest 8 (KeepsArmed.readKnots tag h first count)
  | finish tag h crc => exact onRequest 7 (KeepsArmed.finish tag h crc)
  | finishComplete => exact finishComplete
  | verify tag h => exact onRequest 5 (KeepsArmed.verify tag h)
  | verifyComplete => exact verifyComplete
  | configureView tag n cols rows ch f => exact onRequest 8 (KeepsArmed.configureView tag n cols rows ch f)
  | queryView tag n => exact onRequest 4 (KeepsArmed.queryView tag n)
  | attach tag n h k p => exact onRequest 10 (KeepsArmed.attach tag n h k p)
  | detach tag n h => exact onRequest 6 (KeepsArmed.detach tag n h)
  | move tag n h k p => exact onRequest 10 (KeepsArmed.move tag n h k p)
  | commit tag m kind n => exact onRequest 7 (KeepsArmed.commit tag m kind n)
  | withdraw tag m => exact onRequest 4 (KeepsArmed.withdraw tag m)
  | discard tag m => exact onRequest 4 (KeepsArmed.discard tag m)
  | queryEdits tag n => exact onRequest 4 (KeepsArmed.queryEdits tag n)
  | point tag m => exact onRequest 4 (KeepsArmed.point tag m)
  | setPoints tag n src pol pre => exact onRequest 7 (KeepsArmed.setPoints tag n src pol pre)
  | clearCounts tag m => exact onRequest 4 (KeepsArmed.clearCounts tag m)
  | queryPoints tag => exact onRequest 3 (fun u => KeepsArmed.answer u tag _ _ _)
  | setPort tag p e l => exact onRequest 6 (KeepsArmed.setPort tag p e l)
  | queryPort tag p => exact onRequest 4 (KeepsArmed.queryPort tag p)
  | programBaseline tag n h k p => exact onRequest 10 (KeepsArmed.programBaseline tag n h k p)
  | scanEnd => exact scanEnd
  | programWriteEnd recorded => exact programWriteEnd recorded
  | programVerifyEnd writesTook recorded => exact programVerifyEnd writesTook recorded
  | restoreBaseline tag n => exact onRequest 4 (KeepsArmed.restoreBaseline tag n)
  | restoreComplete upsets => exact restoreComplete upsets
  | querySlot tag n => exact onRequest 4 (KeepsArmed.querySlot tag n)
  | setGroup tag a e k => exact onRequest 6 (KeepsArmed.setGroup tag a e k)
  | setAlerts tag m w => exact onRequest 6 (KeepsArmed.setAlerts tag m w)
  | readAlerts tag => exact onRequest 3 (KeepsArmed.readAlerts tag)
  | unknownRequest message => exact (KeepsArmed.writeRequest s message).outcome
  | requestFormatError message => exact (KeepsArmed.writeRequest s message).outcome
  | busyNack message => exact (KeepsArmed.writeRequest s message).outcome
  | windowSelect selector extra => exact (KeepsArmed.primaryWrite s _).outcome
  | abort value extra => exact (KeepsArmed.primaryWrite s _).outcome
  | groupWrite address others bytes => exact groupWrite address others bytes
  | boundaryEdge line level => exact boundaryEdge line level
  | lookup p tag key first count => exact received s p _
  | credit p n => exact received s p _
  | cancel p tag => exact received s p _
  | linkReset p => exact received s p _
  | badMessage p bytes => exact received s p _
  | linkMessageHeld p m => exact received s p _
  | grant => exact grant
  | handover => exact handover
  | faultReport => exact faultReport
  | stallExpiry p => exact stallExpiry p
  | deviceReset moment straps => exact deviceReset moment straps
  | slotLoad slot upsets => exact slotLoad slot upsets
  | parityFault page offset upset => exact (KeepsArmed.of_same rfl rfl).outcome
  | idleByte p => exact received s p _

end OutcomeKeepsArmed

/-- One step keeps the armed law, whichever command it takes. -/
theorem KeepsArmed.of_step {s t : State} (h : step s = .next t) : KeepsArmed s t := by
  unfold step at h
  cases hp : s.pending with
  | nil =>
    rw [hp] at h
    cases h
    exact of_serves (Serves.tick s)
  | cons r rest =>
    rw [hp] at h
    have htaken : KeepsArmed s { s with pending := rest } := of_same rfl rfl
    exact htaken.trans (OutcomeKeepsArmed.exec r _ t h)

/-- Settles O7: what each kind of step does to lists and point records keeps targets ahead, lists short and records in
their ranges. -/
theorem stepKeepsArmedTargetsAhead : Obligations.StepKeepsArmedTargetsAhead := by
  unfold Obligations.StepKeepsArmedTargetsAhead
  exact fun s t hs hstep => KeepsArmed.of_step hstep hs

end Sys2Proof.EditsAndPoints

/-! PROOFS. SET_POINTS and CLEAR_COUNTS: the checks in their order, the settings written, and the counts of a mask
cleared. -/

namespace Sys2Proof.EditsAndPoints

open Sys2Proof Sys2Proof.Machine Sys2Proof.Safety Sys2Proof.ProfileTable

/-! ### SET_POINTS (R98, R99) -/

/-- A polarity in a request (section 11.1). -/
def PolarityByte (b : Byte) (p : Polarity) : Prop := (p = .rising ∧ b = 0) ∨ (p = .falling ∧ b = 1)

theorem polarityOf_some {b : Byte} {p : Polarity} (h : PolarityByte b p) : polarityOf b = some p := by
  rcases h with ⟨rfl, rfl⟩ | ⟨rfl, rfl⟩ <;> rfl

theorem polarityOf_none {b : Byte} (h : 2 ≤ b.toNat) : polarityOf b = none := by
  have h0 : b ≠ 0 := by
    rintro rfl
    exact absurd h (by decide)
  have h1 : b ≠ 1 := by
    rintro rfl
    exact absurd h (by decide)
  unfold polarityOf
  rw [if_neg h0, if_neg h1]

section SetPoints

variable {s : State} {tag b src pol pre : Byte} {n line : Stream} {p : Polarity}

/-- Whichever operand is out of range, RANGE is the answer (R98, R181). -/
theorem reqSetPoints_range
    (h : 4 ≤ b.toNat ∨ 4 ≤ src.toNat ∨ 2 ≤ pol.toNat ∨ pre.toNat = 0 ∨ 16 < pre.toNat) :
    reqSetPoints tag b src pol pre s = s.respond tag 0x31 .range [] := by
  unfold reqSetPoints
  rcases h with hb | hsrc | hpol | hpre
  · rw [streamOf_none hb]
  · rw [streamOf_none hsrc]
    cases streamOf b <;> rfl
  · rw [polarityOf_none hpol]
    cases streamOf b <;> cases streamOf src <;> rfl
  · split
    · exact if_pos (hpre.imp_left Nat.lt_one_iff.2)
    · rfl

variable (hb : StreamByte b n) (hsrc : StreamByte src line) (hpol : PolarityByte pol p) (hlow : 1 ≤ pre.toNat)
  (hhigh : pre.toNat ≤ 16)
include hb hsrc hpol hlow hhigh

theorem reqSetPoints_armed {a : Word} (harmed : s.lists[n].target = some a) :
    reqSetPoints tag b src pol pre s = s.respond tag 0x31 .armed (wordBytes a) := by
  have hpre : ¬ (pre.toNat < 1 ∨ 16 < pre.toNat) := by omega
  unfold reqSetPoints
  simp only [streamOf_some hb, streamOf_some hsrc, polarityOf_some hpol, if_neg hpre, harmed]

theorem reqSetPoints_ok (htarget : s.lists[n].target = none) :
    reqSetPoints tag b src pol pre s =
      (s.setPoint n { source := line, polarity := p, prescale := pre.toNat, edgeCount := 0,
                      counter := s.points[n].counter }).respond
        tag 0x31 .ok ([b, src, pol, pre] ++ wordBytes s.points[n].counter) := by
  have hpre : ¬ (pre.toNat < 1 ∨ 16 < pre.toNat) := by omega
  unfold reqSetPoints
  simp only [streamOf_some hb, streamOf_some hsrc, polarityOf_some hpol, if_neg hpre, htarget]

end SetPoints

theorem exec_setPoints {s : State} (hidle : s.engine = .idle) (tag b src pol pre : Byte) :
    exec (.setPoints tag b src pol pre) s = .next (reqSetPoints tag b src pol pre (taken s 7)) :=
  next_onRequest hidle 7 _

/-! ### CLEAR_COUNTS (R100) -/

/-- The record with both counts at 0 (R100). -/
def cleared (r : PointRecord) : PointRecord := { r with edgeCount := 0, counter := 0 }

/-- A stream's counts are cleared by a write of its record that makes no point. -/
theorem clearCount_eq_offer : State.clearCount = offer (fun _ => false) cleared := by
  funext s n
  exact (if_neg fun h => Bool.false_ne_true h.1).symm

theorem mem_unarmedStreams {s : State} {m : StreamMask} {n : Stream} :
    n ∈ s.unarmedStreams m ↔ inMask m n = true ∧ s.lists[n].target = none := by
  unfold State.unarmedStreams
  rw [List.mem_filter, mem_maskStreams, decide_eq_true_iff]

theorem nodup_unarmedStreams (s : State) (m : StreamMask) : (s.unarmedStreams m).Nodup :=
  (nodup_maskStreams m).filter _

/-- The UNARMED streams of a mask have their counts cleared, and every other stream keeps its record. -/
theorem clearCount_unarmedStreams_points (s : State) (m : StreamMask) (n : Stream) :
    ((s.unarmedStreams m).foldl State.clearCount s).points[n] =
      if inMask m n ∧ s.lists[n].target = none then cleared s.points[n] else s.points[n] := by
  rw [clearCount_eq_offer, foldl_offer_points _ _ (nodup_unarmedStreams s m)]
  exact if_congr mem_unarmedStreams rfl rfl

theorem inMask_unarmedStreams (s : State) (m : StreamMask) (n : Stream) :
    inMask (maskOfStreams (s.unarmedStreams m)) n = (inMask m n && s.lists[n].target.isNone) := by
  rw [inMask_maskOfStreams, Bool.eq_iff_iff, decide_eq_true_iff, mem_unarmedStreams, Bool.and_eq_true,
    Option.isNone_iff_eq_none]

theorem inMask_armedStreams (s : State) (m : StreamMask) (n : Stream) :
    inMask (maskOfStreams (s.armedStreams m)) n = (inMask m n && s.lists[n].target.isSome) := by
  rw [inMask_maskOfStreams, Bool.eq_iff_iff, decide_eq_true_iff, mem_armedStreams, Bool.and_eq_true]

theorem reqClearCounts_range {s : State} {tag m : Byte} (h : 16 ≤ m.toNat) :
    reqClearCounts tag m s = s.respond tag 0x32 .range [] := by
  unfold reqClearCounts
  rw [maskOf_none h]

theorem reqClearCounts_ok {s : State} {tag m : Byte} {mask : StreamMask} (h : MaskByte m mask) :
    reqClearCounts tag m s = ((s.unarmedStreams mask).foldl State.clearCount s).respond tag 0x32 .ok
      [(maskOfStreams (s.unarmedStreams mask)).setWidth 8, (maskOfStreams (s.armedStreams mask)).setWidth 8] := by
  unfold reqClearCounts
  simp only [maskOf_some h, maskByte_setWidth]

theorem exec_clearCounts {s : State} (hidle : s.engine = .idle) (tag m : Byte) :
    exec (.clearCounts tag m) s = .next (reqClearCounts tag m (taken s 4)) := next_onRequest hidle 4 _

/-- Settles O35: SET_POINTS check by check, CLEAR_COUNTS as one write of the record of each UNARMED stream. -/
theorem setPointsAndClearCounts : Obligations.SetPointsAndClearCounts := by
  unfold Obligations.SetPointsAndClearCounts
  refine ⟨fun s tag b src pol pre hidle => ?_, fun s tag m hidle => ?_⟩
  · rw [exec_setPoints hidle]
    refine ⟨fun h => congrArg _ (reqSetPoints_range h), fun n line p hb hsrc hpol hlow hhigh => ⟨?armed, ?ok⟩⟩
    case armed =>
      intro a ha
      exact congrArg _ (reqSetPoints_armed (s := taken s 7) hb hsrc hpol hlow hhigh ha)
    case ok =>
      intro htarget
      exact congrArg _ (reqSetPoints_ok (s := taken s 7) hb hsrc hpol hlow hhigh htarget)
  · rw [exec_clearCounts hidle]
    refine ⟨fun h => congrArg _ (reqClearCounts_range h), fun mask hm => ?_⟩
    refine ⟨_, maskOfStreams (s.unarmedStreams mask), maskOfStreams (s.armedStreams mask),
      congrArg _ (reqClearCounts_ok hm), ?frame, ?records, ?masks⟩
    case frame =>
      rw [StepKeeps.foldl_clearCount_frame]
      rfl
    case records => exact clearCount_unarmedStreams_points (taken s 4) mask
    case masks => exact fun n => ⟨inMask_unarmedStreams s mask n, inMask_armedStreams s mask n⟩

end Sys2Proof.EditsAndPoints

/-! PROOFS. Selection and blending: the zone of a key over plateaus that stand apart, the selection its choice gives, the
blended knot, and the knots of a row. -/

namespace Sys2Proof.SurfaceServing

open Sys2Proof Sys2Proof.Machine Sys2Proof.Safety Sys2Proof.StreamViews

/-! ### The zone of a key (R105 to R107) -/

theorem lower_le_upper (a : Anchor) : a.lower ≤ a.upper := (lower_le_key a).trans (key_le_upper a)

/-- At or below its upper edge, the first anchor of a list is chosen alone. -/
theorem choose_cons_of_le_upper {a : Anchor} {as : List Anchor} {k : Nat} (h : k ≤ a.upper) :
    choose (a :: as) k = .single a := by
  cases as with
  | nil => rfl
  | cons b rest => exact if_pos h

theorem choose_cons_of_gap {a b : Anchor} {as : List Anchor} {k : Nat} (hupper : a.upper < k) (hlower : k < b.lower) :
    choose (a :: b :: as) k = gapChoice a b k := by
  rw [choose, if_neg (Nat.not_le.2 hupper), if_pos hlower]

/-- From the lower edge of the second anchor on, the first one has no part in the choice. -/
theorem choose_cons_of_lower_le {a b : Anchor} {as : List Anchor} {k : Nat} (hupper : a.upper < k)
    (hlower : b.lower ≤ k) :
    choose (a :: b :: as) k = choose (b :: as) k := by
  rw [choose, if_neg (Nat.not_le.2 hupper), if_neg (Nat.not_lt.2 hlower)]

theorem drop_eq_cons_of_getElem? {as : List Anchor} {i : Nat} {a : Anchor} (h : as[i]? = some a) :
    as.drop i = a :: as.drop (i + 1) := by
  obtain ⟨hi, rfl⟩ := List.getElem?_eq_some_iff.1 h
  exact List.drop_eq_getElem_cons hi

/-- A key at or above an anchor's lower edge is chosen for from that anchor on: each plateau before it lies below. -/
theorem choose_eq_choose_drop {as : List Anchor} {k : Nat} (hapart : PlateausApart as) {i : Nat} {a : Anchor}
    (ha : as[i]? = some a) (hk : a.lower ≤ k) : choose as k = choose (as.drop i) k := by
  induction i generalizing a with
  | zero => rfl
  | succ i ih =>
    obtain ⟨hi, -⟩ := List.getElem?_eq_some_iff.1 ha
    obtain ⟨b, hb⟩ : ∃ b, as[i]? = some b := ⟨_, List.getElem?_eq_getElem (Nat.lt_of_succ_lt hi)⟩
    have hbelow : b.upper < k := (hapart i b a hb ha).trans_le hk
    rw [ih hb ((lower_le_upper b).trans hbelow.le), drop_eq_cons_of_getElem? hb, drop_eq_cons_of_getElem? ha]
    exact choose_cons_of_lower_le hbelow hk

theorem choose_of_last {as : List Anchor} {k : Nat} (hapart : PlateausApart as) {a : Anchor}
    (ha : as[as.length - 1]? = some a) (hk : a.lower ≤ k) : choose as k = .single a := by
  have hrest : as.drop (as.length - 1 + 1) = [] := List.drop_eq_nil_of_le (Nat.le_add_of_sub_le le_rfl)
  rw [choose_eq_choose_drop hapart ha hk, drop_eq_cons_of_getElem? ha, hrest]
  rfl

theorem choose_of_plateau {as : List Anchor} {k : Nat} (hapart : PlateausApart as) {i : Nat} {a : Anchor}
    (ha : as[i]? = some a) (hlower : a.lower ≤ k) (hupper : k ≤ a.upper) : choose as k = .single a := by
  rw [choose_eq_choose_drop hapart ha hlower, drop_eq_cons_of_getElem? ha]
  exact choose_cons_of_le_upper hupper

theorem choose_of_gap {as : List Anchor} {k : Nat} (hapart : PlateausApart as) {i : Nat} {a b : Anchor}
    (ha : as[i]? = some a) (hb : as[i + 1]? = some b) (hupper : a.upper < k) (hlower : k < b.lower) :
    choose as k = gapChoice a b k := by
  rw [choose_eq_choose_drop hapart ha ((lower_le_upper a).trans hupper.le), drop_eq_cons_of_getElem? ha,
    drop_eq_cons_of_getElem? hb]
  exact choose_cons_of_gap hupper hlower

/-- The weight of a key short of the upper plateau fits a byte (R107). -/
theorem blendWeight_le {k upper lower : Nat} (h : k < lower) (hupper : upper < k) : blendWeight k upper lower ≤ 255 :=
  Nat.le_of_lt_succ ((Nat.div_lt_iff_lt_mul (by omega)).2 (by omega))

/-! ### The selection of a choice (R105, R108) -/

theorem selectionOf_single (s : State) (a : Anchor) :
    s.selectionOf (.single a) = if s.entries[a.handle.index].damaged then .fallback else .pure a.handle := rfl

theorem selectionOf_pair (s : State) (a b : Anchor) (w : Nat) :
    s.selectionOf (.pair a b w) =
      match s.entries[a.handle.index].damaged, s.entries[b.handle.index].damaged with
      | false, false => .blend a.handle b.handle (BitVec.ofNat 8 w)
      | true, false => .degraded b.handle
      | false, true => .degraded a.handle
      | true, true => .fallback := by
  simp only [State.selectionOf, State.anchorDamaged]
  cases s.entries[a.handle.index].damaged <;> cases s.entries[b.handle.index].damaged <;> rfl

/-- Settles O36: the zones by the part of the list that a key is chosen from, the selections by the table of R108. -/
theorem selectionByZoneAndDamage : Obligations.SelectionByZoneAndDamage := by
  unfold Obligations.SelectionByZoneAndDamage
  refine ⟨⟨fun _ => rfl, fun as k hapart => ⟨?first, ?last, ?plateau, ?gap⟩⟩,
    fun s => ⟨rfl, ?single, ?pair, ?select, ?sources⟩⟩
  case first =>
    intro a ha hk
    have hlist := drop_eq_cons_of_getElem? ha
    rw [List.drop_zero] at hlist
    rw [hlist]
    exact choose_cons_of_le_upper hk
  case last => exact fun a => choose_of_last hapart
  case plateau => exact fun i a => choose_of_plateau hapart
  case gap =>
    intro i a b ha hb hupper hlower
    rw [choose_of_gap hapart ha hb hupper hlower]
    exact ⟨blendWeight_le hlower hupper, fun hw => if_pos hw, fun hw => if_neg (Nat.one_le_iff_ne_zero.1 hw)⟩
  case single => exact selectionOf_single s
  case pair => exact selectionOf_pair s
  case select => exact fun _ _ => rfl
  case sources => exact fun _ _ _ => ⟨rfl, rfl, rfl, rfl⟩

/-! ### The blended knot (R112) -/

/-- The sum that R112 rounds: a weighted (256 - w) / 256 and b weighted w / 256, times 256. -/
def weightedSum (w a b : Nat) : Nat := (256 - w) * a + w * b

section WeightedSum

variable {w v a b c : Nat}

theorem weightedSum_self (hw : w ≤ 256) : weightedSum w a a = 256 * a := by
  unfold weightedSum
  rw [← Nat.add_mul, Nat.sub_add_cancel hw]

theorem weightedSum_swap (hw : w ≤ 256) : weightedSum (256 - w) b a = weightedSum w a b := by
  unfold weightedSum
  rw [Nat.sub_sub_self hw, Nat.add_comm]

theorem weightedSum_mono {a' b' : Nat} (ha : a ≤ a') (hb : b ≤ b') : weightedSum w a b ≤ weightedSum w a' b' :=
  Nat.add_le_add (Nat.mul_le_mul_left _ ha) (Nat.mul_le_mul_left _ hb)

theorem weightedSum_le (hw : w ≤ 256) (ha : a ≤ c) (hb : b ≤ c) : weightedSum w a b ≤ 256 * c :=
  (weightedSum_mono ha hb).trans_eq (weightedSum_self hw)

theorem le_weightedSum (hw : w ≤ 256) (ha : c ≤ a) (hb : c ≤ b) : 256 * c ≤ weightedSum w a b :=
  (weightedSum_self hw).symm.trans_le (weightedSum_mono ha hb)

/-- Weight moved from the smaller to the larger summand does not lower the sum. -/
theorem weightedSum_le_of_weight_le (hwv : w ≤ v) (hv : v ≤ 256) (hab : a ≤ b) :
    weightedSum w a b ≤ weightedSum v a b := by
  obtain ⟨d, rfl⟩ := Nat.exists_eq_add_of_le hwv
  have hsplit : 256 - w = 256 - (w + d) + d := by omega
  calc weightedSum w a b = (256 - (w + d)) * a + (d * a + w * b) := by
        unfold weightedSum
        rw [hsplit, Nat.add_mul, Nat.add_assoc]
    _ ≤ (256 - (w + d)) * a + (d * b + w * b) :=
        Nat.add_le_add_left (Nat.add_le_add_right (Nat.mul_le_mul_left d hab) _) _
    _ = weightedSum (w + d) a b := by
        unfold weightedSum
        rw [← Nat.add_mul, Nat.add_comm d w]

end WeightedSum

theorem weight_le (w : Byte) : w.toNat ≤ 256 := w.isLt.le

/-- The rounded mean of two knots is a knot, so that its 12 bits hold it whole. -/
theorem toNat_blendKnot (w : Byte) (a b : Knot) :
    (blendKnot w a b).toNat = (weightedSum w.toNat a.toNat b.toNat + 128) / 256 := by
  have hsum : weightedSum w.toNat a.toNat b.toNat ≤ 256 * 4095 :=
    weightedSum_le (weight_le w) (Nat.le_of_lt_succ a.isLt) (Nat.le_of_lt_succ b.isLt)
  exact (BitVec.toNat_ofNat _ _).trans (Nat.mod_eq_of_lt (by unfold weightedSum at hsum; omega))

theorem toNat_blendKnot_le_of_sum_le {w v : Byte} {a b : Knot}
    (h : weightedSum w.toNat a.toNat b.toNat ≤ weightedSum v.toNat a.toNat b.toNat) :
    (blendKnot w a b).toNat ≤ (blendKnot v a b).toNat := by
  rw [toNat_blendKnot, toNat_blendKnot]
  exact Nat.div_le_div_right (Nat.add_le_add_right h 128)

theorem le_toNat_blendKnot (w : Byte) (a b : Knot) : min a.toNat b.toNat ≤ (blendKnot w a b).toNat := by
  have hsum := le_weightedSum (weight_le w) (Nat.min_le_left a.toNat b.toNat) (Nat.min_le_right a.toNat b.toNat)
  rw [toNat_blendKnot]
  omega

theorem toNat_blendKnot_le (w : Byte) (a b : Knot) : (blendKnot w a b).toNat ≤ max a.toNat b.toNat := by
  have hsum := weightedSum_le (weight_le w) (Nat.le_max_left a.toNat b.toNat) (Nat.le_max_right a.toNat b.toNat)
  rw [toNat_blendKnot]
  omega

theorem blendKnot_self (w : Byte) (a : Knot) : blendKnot w a a = a := by
  have hlow := le_toNat_blendKnot w a a
  have hhigh := toNat_blendKnot_le w a a
  rw [Nat.min_self] at hlow
  rw [Nat.max_self] at hhigh
  exact BitVec.eq_of_toNat_eq (Nat.le_antisymm hhigh hlow)

/-- Settles O37, by the sum that the blend rounds: it lies between its summands and moves with the weight toward the
second. -/
theorem blendLiesBetweenItsKnots : Obligations.BlendLiesBetweenItsKnots := by
  unfold Obligations.BlendLiesBetweenItsKnots
  intro w a b _
  refine ⟨toNat_blendKnot w a b, le_toNat_blendKnot w a b, toNat_blendKnot_le w a b, ?equal,
    fun v hwv => ⟨?rises, ?falls⟩⟩
  case equal =>
    rintro rfl
    exact blendKnot_self w a
  case rises => exact fun hab => toNat_blendKnot_le_of_sum_le (weightedSum_le_of_weight_le hwv (weight_le v) hab)
  case falls =>
    intro hba
    refine toNat_blendKnot_le_of_sum_le ?_
    rw [← weightedSum_swap (weight_le v), ← weightedSum_swap (weight_le w)]
    exact weightedSum_le_of_weight_le (Nat.sub_le_sub_left hwv 256) (Nat.sub_le 256 _) hba

/-! ### The knots of a row (R110, R113, R139, R142) -/

theorem good_of_mem_range' {s : State} {i : EntryIndex} {first count k : Nat} (h : AllGood s i first count)
    (hk : k ∈ List.range' first count) : (s.readKnot i k).good = true := by
  obtain ⟨j, hj, rfl⟩ := List.mem_range'.1 hk
  rw [Nat.one_mul]
  exact h j hj

/-- A run cut at one of its indices. -/
theorem range'_eq_append_cons {first count j : Nat} (hfirst : first ≤ j) (hlast : j < first + count) :
    List.range' first count = List.range' first (j - first) ++ j :: List.range' (j + 1) (first + count - (j + 1)) := by
  have hcount : count = (j - first) + (first + count - (j + 1) + 1) := by omega
  have hj : first + (j - first) = j := Nat.add_sub_cancel' hfirst
  conv_lhs => rw [hcount, ← List.range'_append_1, List.range'_succ, hj]

section Rows

variable {s : State} {a b : EntryIndex} {w : Byte}

theorem pureRow_ok {first count : Nat} (h : AllGood s a first count) :
    s.pureRow a (List.range' first count) = .ok (knotValues s a first count) := by
  have hread : readWords (s.readKnot a) (List.range' first count) = _ := readRun_ok h
  rw [State.pureRow, hread]

theorem pureRow_error {first count j : Nat} (h : FirstFault s a first count j) :
    s.pureRow a (List.range' first count) = .error a := by
  have hread : readWords (s.readKnot a) (List.range' first count) = _ := readRun_error h
  rw [State.pureRow, hread]

theorem blendRow_cons_good {j : Nat} {js : List Nat} (ha : (s.readKnot a j).good = true)
    (hb : (s.readKnot b j).good = true) :
    s.blendRow w a b (j :: js) = (s.blendRow w a b js).map
      (fun ks => blendKnot w (s.readKnot a j).value (s.readKnot b j).value :: ks) := by
  rw [State.blendRow, ha, hb]
  cases s.blendRow w a b js <;> rfl

theorem blendRow_cons_faultA {j : Nat} {js : List Nat} (ha : (s.readKnot a j).good = false) :
    s.blendRow w a b (j :: js) = .error a := by
  rw [State.blendRow, ha]
  rfl

/-- Anchor A's word is read before anchor B's (R139): a fault of B's is met where A's word is good. -/
theorem blendRow_cons_faultB {j : Nat} {js : List Nat} (ha : (s.readKnot a j).good = true)
    (hb : (s.readKnot b j).good = false) : s.blendRow w a b (j :: js) = .error b := by
  rw [State.blendRow, ha, hb]
  rfl

theorem blendRow_ok {js : List Nat} (ha : ∀ j ∈ js, (s.readKnot a j).good = true)
    (hb : ∀ j ∈ js, (s.readKnot b j).good = true) :
    s.blendRow w a b js =
      .ok (js.map (fun j => blendKnot w (s.readKnot a j).value (s.readKnot b j).value)) := by
  induction js with
  | nil => rfl
  | cons j js ih =>
    obtain ⟨haj, hajs⟩ := List.forall_mem_cons.1 ha
    obtain ⟨hbj, hbjs⟩ := List.forall_mem_cons.1 hb
    rw [blendRow_cons_good haj hbj, ih hajs hbjs]
    rfl

/-- Good words before a fault leave the fault's entry the one named. -/
theorem blendRow_append_error {before after : List Nat} {e : EntryIndex}
    (ha : ∀ j ∈ before, (s.readKnot a j).good = true) (hb : ∀ j ∈ before, (s.readKnot b j).good = true)
    (hafter : s.blendRow w a b after = .error e) : s.blendRow w a b (before ++ after) = .error e := by
  induction before with
  | nil => exact hafter
  | cons j js ih =>
    obtain ⟨haj, hajs⟩ := List.forall_mem_cons.1 ha
    obtain ⟨hbj, hbjs⟩ := List.forall_mem_cons.1 hb
    rw [List.cons_append, blendRow_cons_good haj hbj, ih hajs hbjs]
    rfl

/-- A run of blended knots whose words are good below index j, and whose row from j on names an entry, names it. -/
theorem blendRow_range'_error {first count j : Nat} {e : EntryIndex} (hfirst : first ≤ j) (hlast : j < first + count)
    (ha : ∀ k, first ≤ k → k < j → (s.readKnot a k).good = true)
    (hb : ∀ k, first ≤ k → k < j → (s.readKnot b k).good = true)
    (hj : ∀ js, s.blendRow w a b (j :: js) = .error e) :
    s.blendRow w a b (List.range' first count) = .error e := by
  have hbounds : ∀ k ∈ List.range' first (j - first), first ≤ k ∧ k < j := by
    intro k hk
    rw [List.mem_range'_1, Nat.add_sub_cancel' hfirst] at hk
    exact hk
  rw [range'_eq_append_cons hfirst hlast]
  exact blendRow_append_error (fun k hk => ha k (hbounds k hk).1 (hbounds k hk).2)
    (fun k hk => hb k (hbounds k hk).1 (hbounds k hk).2) (hj _)

end Rows

/-- A PURE and a DEGRADED row are read from anchor A's entry alone (R110). -/
theorem rowKnots_pureRow {l : Lookup} {a : Handle} (h : l.selection = .pure a ∨ l.selection = .degraded a) (s : State)
    (r : Nat) :
    s.rowKnots l r = s.pureRow a.index (List.range' (r * l.geometry.rowLength) l.geometry.rowLength) := by
  unfold State.rowKnots
  rcases h with h | h <;> rw [h]

theorem rowKnots_blendRow {l : Lookup} {a b : Handle} {w : Byte} (h : l.selection = .blend a b w) (s : State) (r : Nat) :
    s.rowKnots l r =
      s.blendRow w a.index b.index (List.range' (r * l.geometry.rowLength) l.geometry.rowLength) := by
  unfold State.rowKnots
  rw [h]

/-- A FALLBACK row reads no word: it is unity of the lookup's format (R113). -/
theorem rowKnots_fallback {l : Lookup} (h : l.selection = .fallback) (s : State) (r : Nat) :
    s.rowKnots l r = .ok (List.replicate l.geometry.rowLength l.format.unity) := by
  unfold State.rowKnots
  rw [h]

/-- Settles O38, by the reads of a row in their order: the words before the first fault are good. -/
theorem rowIsMadeOfItsSelection : Obligations.RowIsMadeOfItsSelection := by
  unfold Obligations.RowIsMadeOfItsSelection
  intro s l r first count
  refine ⟨fun a hsel => ?pureOrDegraded, fun a b w hsel => ?blend, fun hsel => ?fallback⟩
  case pureOrDegraded =>
    rw [rowKnots_pureRow hsel]
    exact ⟨pureRow_ok, fun j => pureRow_error⟩
  case blend =>
    rw [rowKnots_blendRow hsel]
    refine ⟨fun ha hb => blendRow_ok (fun _ => good_of_mem_range' ha) (fun _ => good_of_mem_range' hb), ?faultA, ?faultB⟩
    case faultA =>
      rintro j ⟨hfirst, hlast, hfault, hbefore⟩ hb
      exact blendRow_range'_error hfirst hlast (fun k hk hlt => hbefore k hlt hk) hb fun _ => blendRow_cons_faultA hfault
    case faultB =>
      rintro j ⟨hfirst, hlast, hfault, hbefore⟩ ha
      exact blendRow_range'_error hfirst hlast (fun k hk hlt => ha k hk hlt.le) (fun k hk hlt => hbefore k hlt hk)
        fun _ => blendRow_cons_faultB (ha j hfirst le_rfl) hfault
  case fallback =>
    rw [rowKnots_fallback hsel]
    cases l.format <;> rfl

end Sys2Proof.SurfaceServing

/-! PROOFS. A finished row handed back to its port: the ROW made, the head kept or ended, a resetting head let go. -/

namespace Sys2Proof.SurfaceServing

open Sys2Proof Sys2Proof.Machine Sys2Proof.Safety

/-! ### A port's record after the row (R125, R126) -/

theorem modPort_eq_withPort (s : State) (p : Stream) (f : Port → Port) :
    s.modPort p f = withPort s p (f s.ports[p]) := rfl

@[simp] theorem withPort_get_same (s : State) (p : Stream) (x : Port) : (withPort s p x).ports[p] = x :=
  Vector.getElem_set_self p.isLt

@[simp] theorem withPort_withPort (s : State) (p : Stream) (x y : Port) :
    withPort (withPort s p x) p y = withPort s p y :=
  setPort_setPort s p x y

theorem makeRow_eq_rowMade {x : Port} {h : Lookup} {rest : List Lookup} (hq : x.queue = h :: rest) (r : Nat)
    (ks : List Knot) : x.makeRow r ks = rowMade x h rest r ks := by
  unfold Port.makeRow rowMade
  rw [hq]

/-- The timer judged after a row (R126): a head still owed rows, whose port has spent its last credit, waits for one. -/
theorem judgeTimer_rowMade {h : Lookup} (howed : h.rowsOwed ≠ []) (hcancel : h.cancelling = false) (x : Port)
    (rest : List Lookup) (r : Nat) (ks : List Knot) :
    (rowMade x h rest r ks).judgeTimer =
      { rowMade x h rest r ks with timer :=
          if x.credits ≤ 1 ∧ x.stallLimit.toNat ≠ 0 then .running 0 x.stallLimit.toNat else x.timer } := by
  have hcredits : x.credits - 1 = 0 ↔ x.credits ≤ 1 := Nat.sub_eq_zero_iff_le
  simp only [Port.judgeTimer, rowMade, howed, hcancel, hcredits, ne_eq, not_false_eq_true, true_and]
  split <;> rfl

/-! ### The handover (R131, R133, R139) -/

/-- The held messages of a resetting head that stands alone are taken once it has left (R133; log entry 11). -/
theorem finishReset_eq {s : State} {p : Stream} {h : Lookup} (hq : s.ports[p].queue = [h]) :
    s.finishReset p = s.ports[p].held.foldl (fun t m => t.takeMessage p m)
      (withPort (s.releaseRefs h.selection) p
        { s.ports[p] with queue := [], held := [], out := s.ports[p].out ++ [.notice .resetDone] }) := by
  have hports : (s.releaseRefs h.selection).ports = s.ports := by rw [releaseRefs_frame]
  unfold State.finishReset
  rw [hq]
  simp only [modPort_eq_withPort, hports]

/-- A head ends by what it holds references on: neither its granted row nor its rows sent has a part in its end. -/
theorem endHead_withPort_rowMade (s : State) (p : Stream) (x : Port) (h : Lookup) (rest : List Lookup) (r : Nat)
    (ks : List Knot) (ms : List OutMessage) :
    (withPort s p (rowMade x h rest r ks)).endHead p ms =
      headEnded (withPort s p (rowMade x h rest r ks)) p h rest ms := by
  refine (endHead_eq ms (congrArg Port.queue (withPort_get_same s p _))).trans ?_
  cases rest <;> rfl

section Handover

variable {s : State} {d : Producing} {h : Lookup} {rest : List Lookup} {ks : List Knot}

theorem exec_handover (hd : s.datapath = some d) (hq : s.ports[d.port].queue = h :: rest)
    (hks : s.rowKnots h d.row = .ok ks) : exec .handover s = .next (s.handOver d.port h d.row ks) := by
  show execHandover s = _
  unfold execHandover
  simp only [hd, hq, hks]

theorem handOver_resetting {p : Stream} (hreset : h.resetting = true) (r : Nat) :
    s.handOver p h r ks = State.finishReset { s with datapath := none } p := if_pos hreset

/-- The row of a head that does not reset is made; then the head ends, or its timer is judged. -/
theorem handOver_of_not_resetting {p : Stream} (hreset : h.resetting = false) (hq : s.ports[p].queue = h :: rest)
    (r : Nat) :
    s.handOver p h r ks =
      let made := withPort { s with datapath := none } p (rowMade s.ports[p] h rest r ks)
      if h.cancelling then headEnded made p h rest [.ended h.tag .cancelled]
      else if h.rowsOwed = [] then headEnded made p h rest [.ended h.tag h.selection.endStatus]
      else made.modPort p Port.judgeTimer := by
  simp only [State.handOver, hreset, Bool.false_eq_true, if_false, modPort_eq_withPort, makeRow_eq_rowMade hq,
    endHead_withPort_rowMade]

end Handover

/-- Settles O48: the head's condition decides what follows the row. -/
theorem handoverMakesRowOrEndsHead : Obligations.HandoverMakesRowOrEndsHead := by
  unfold Obligations.HandoverMakesRowOrEndsHead
  intro s d h rest ks hd hq hks p s0 made
  rw [exec_handover hd hq hks]
  refine ⟨fun hreset => ?_, fun hreset hrest => ?resetting⟩
  · rw [handOver_of_not_resetting hreset hq]
    refine ⟨fun hcancel => ?cancelling, fun hcancel howed => ?lastRow, fun hcancel howed => ?moreRows⟩
    case cancelling => exact congrArg _ (if_pos hcancel)
    case lastRow =>
      simp only [hcancel, howed, Bool.false_eq_true, if_false, if_true]
      cases h.selection <;> rfl
    case moreRows =>
      simp only [hcancel, howed, Bool.false_eq_true, if_false, modPort_eq_withPort, withPort_get_same,
        judgeTimer_rowMade howed hcancel]
      simp only [made, withPort_get_same]
      rfl
  case resetting =>
    subst hrest
    rw [handOver_resetting hreset]
    exact congrArg _ (finishReset_eq (s := s0) hq)

end Sys2Proof.SurfaceServing

/-! PROOFS. Whole link messages: their bytes taken as the message they spell, discarded, or skipped; what a port that
listens does with each. -/

namespace Sys2Proof.LookupLink

open Sys2Proof Sys2Proof.Machine Sys2Proof.Safety Sys2Proof.ProfileTable Sys2Proof.SurfaceServing

/-! ### Messages judged whole (R114 to R116, R182) -/

theorem receive_cons (s : State) (p : Stream) (b : Byte) (bs : List Byte) :
    s.receive p (b :: bs) = (s.receiveByte p b).receive p bs := rfl

/-- An incoming message's bytes on a lane that waits for a kind byte are judged as a whole. -/
theorem receive_encode_judged {s : State} {p : Stream} (hw : s.ports[p].framing = .waiting) (m : LinkMessage) :
    s.receive p m.encode = s.judgeMessage p m.encode := by
  cases m <;> exact receive_framed hw rfl (by simp) rfl

theorem judgeMessage_encode (s : State) (p : Stream) (m : LinkMessage) :
    s.judgeMessage p m.encode = if m.fieldsOk then s.arrive p m else s.discard p := by
  unfold State.judgeMessage
  rw [parseMessage_encode]

theorem receive_encode_arrives {s : State} {p : Stream} (hw : s.ports[p].framing = .waiting) {m : LinkMessage}
    (hm : m.fieldsOk = true) : s.receive p m.encode = s.arrive p m := by
  rw [receive_encode_judged hw, judgeMessage_encode, if_pos hm]

theorem fieldsOk_lookup {tag : Byte} (h : tag.toNat < 16) (key : Word) (first count : Byte) :
    (LinkMessage.lookup tag key first count).fieldsOk = true := decide_eq_true h

theorem fieldsOk_credit {n : Byte} (hlow : 1 ≤ n.toNat) (hhigh : n.toNat ≤ 4) :
    (LinkMessage.credit n).fieldsOk = true :=
  Bool.and_eq_true_iff.2 ⟨decide_eq_true hlow, decide_eq_true hhigh⟩

theorem fieldsOk_cancel {tag : Byte} (h : tag.toNat < 16) : (LinkMessage.cancel tag).fieldsOk = true := decide_eq_true h

/-- Settles O40: the bytes kind by kind, then each row as the arrival of its message's bytes. -/
theorem linkMessageBytesReadBack : Obligations.LinkMessageBytesReadBack := by
  unfold Obligations.LinkMessageBytesReadBack
  refine ⟨fun m => ?bytes, parseMessage_encode, fun s p hw => ?rows⟩
  case bytes => cases m <;> rfl
  case rows =>
    have harrives : ∀ m : LinkMessage, m.fieldsOk = true → s.receive p m.encode = s.arrive p m :=
      fun m hm => receive_encode_arrives hw hm
    refine ⟨fun m hm => ⟨harrives m hm, congrArg _ (harrives m hm)⟩, ?lookupRow, ?creditRow, ?cancelRow, ?resetRow⟩
    case lookupRow => exact fun tag key first count h => congrArg _ (harrives _ (fieldsOk_lookup h key first count))
    case creditRow => exact fun n hlow hhigh => congrArg _ (harrives _ (fieldsOk_credit hlow hhigh))
    case cancelRow => exact fun tag h => congrArg _ (harrives _ (fieldsOk_cancel h))
    case resetRow => exact congrArg _ (harrives _ rfl)

/-! ### Messages discarded, bytes skipped (R116, R118) -/

/-- Port p after a message discarded on it: its lane skips, and an ACTIVE port has made the notice. -/
def dropped (s : State) (p : Stream) : State :=
  withPort s p { s.ports[p] with
    framing := .skipping
    out := s.ports[p].out ++ (if s.ports[p].active then [.notice .badMessage] else []) }

theorem discard_eq_dropped (s : State) (p : Stream) : s.discard p = dropped s p := by
  unfold State.discard dropped State.send
  simp only [modPort_eq_withPort, withPort_get_same, withPort_withPort]
  split
  · rfl
  · rw [List.append_nil]

theorem receiveByte_idle {s : State} {p : Stream} (hw : s.ports[p].framing = .waiting) : s.receiveByte p 0 = s := by
  unfold State.receiveByte
  rw [hw]
  rfl

/-- A byte that no message kind begins, on a lane that waits for a kind byte (R116). -/
theorem receiveByte_unknown_kind {s : State} {p : Stream} {kind : Byte} (hw : s.ports[p].framing = .waiting)
    (h0 : kind ≠ 0) (hk : messageLength kind = none) : s.receiveByte p kind = dropped s p := by
  unfold State.receiveByte
  simp only [hw, h0, hk, if_false, discard_eq_dropped]

theorem receiveByte_skipping_idle {s : State} {p : Stream} (hs : s.ports[p].framing = .skipping) :
    s.receiveByte p 0 = withPort s p { s.ports[p] with framing := .waiting } := by
  unfold State.receiveByte
  rw [hs]
  rfl

theorem receive_skipping {s : State} {p : Stream} (hs : s.ports[p].framing = .skipping) {noise : List Byte}
    (hnoise : ∀ b ∈ noise, b ≠ 0) : s.receive p noise = s := by
  induction noise with
  | nil => rfl
  | cons b noise ih =>
    obtain ⟨hb, hrest⟩ := List.forall_mem_cons.1 hnoise
    have hskip : s.receiveByte p b = s := by
      unfold State.receiveByte
      simp only [hs, hb, if_false]
    rw [receive_cons, hskip, ih hrest]

theorem dropped_framing (s : State) (p : Stream) : (dropped s p).ports[p].framing = .skipping := by
  unfold dropped
  rw [withPort_get_same]

theorem messageLength_none {kind : Byte} (h : kind.toNat ∉ [0, 0x11, 0x12, 0x13, 0x14]) :
    kind ≠ 0 ∧ messageLength kind = none := by
  have hne : ∀ k : Byte, k.toNat ∈ [0, 0x11, 0x12, 0x13, 0x14] → kind ≠ k := fun k hk heq => h (heq ▸ hk)
  refine ⟨hne 0 (by decide), ?_⟩
  unfold messageLength
  rw [if_neg (hne _ (by decide)), if_neg (hne _ (by decide)), if_neg (hne _ (by decide)), if_neg (hne _ (by decide))]

/-- A message whose check byte disagrees spells nothing (R115). -/
theorem judgeMessage_bad_check {s : State} {p : Stream} {bytes : List Byte} {check : Byte}
    (h : check ≠ crc8 bytes) : s.judgeMessage p (bytes ++ [check]) = dropped s p := by
  have hparse : parseMessage (bytes ++ [check]) = none := by
    unfold parseMessage
    refine if_neg ?_
    rw [List.getLast?_append_of_ne_nil _ (List.cons_ne_nil _ _), List.dropLast_concat]
    exact fun heq => h (Option.some.inj heq)
  unfold State.judgeMessage
  rw [hparse]
  exact discard_eq_dropped s p

theorem takeMessage_offline {s : State} {p : Stream} (ha : s.ports[p].active = false) {m : LinkMessage}
    (hm : ∀ tag key first count, m ≠ .lookup tag key first count) : s.takeMessage p m = s := by
  unfold State.takeMessage
  cases m with
  | lookup tag key first count => exact absurd rfl (hm tag key first count)
  | credit n => simp only [ha, Bool.false_eq_true, if_false]
  | cancel tag => simp only [ha, Bool.false_eq_true, if_false]
  | reset => simp only [ha, Bool.false_eq_true, if_false]

/-- Settles O45: an unknown kind at its first byte, a failing check or field at the message's last, and the bytes that a
skipping lane or an OFFLINE port drops. -/
theorem discardedMessageSkipsToIdle : Obligations.DiscardedMessageSkipsToIdle := by
  unfold Obligations.DiscardedMessageSkipsToIdle
  refine ⟨fun s p hw => ⟨?unknownKind, ?badCheck, ?badField, ?idle⟩, fun s p hs => ⟨?endOfSkip, ?skipped⟩,
    fun s p hlisten ha => ⟨?credit, ?cancel, ?reset⟩⟩
  case unknownKind =>
    intro kind noise hkind hnoise
    obtain ⟨h0, hlength⟩ := messageLength_none hkind
    refine congrArg Host.Outcome.next ?_
    rw [receive_cons, receiveByte_unknown_kind hw h0 hlength]
    exact receive_skipping (dropped_framing s p) hnoise
  case badCheck =>
    intro kind middle check hlength hcheck
    refine congrArg Host.Outcome.next ?_
    have hframed := receive_framed (rest := middle ++ [check]) hw hlength (by simp) (by simp)
    exact hframed.trans (judgeMessage_bad_check (bytes := kind :: middle) hcheck)
  case badField =>
    intro m hm
    refine congrArg Host.Outcome.next ?_
    rw [receive_encode_judged hw, judgeMessage_encode, hm]
    exact discard_eq_dropped s p
  case idle => exact congrArg Host.Outcome.next (receiveByte_idle hw)
  case endOfSkip => exact congrArg Host.Outcome.next (receiveByte_skipping_idle hs)
  case skipped => exact fun noise hnoise => congrArg Host.Outcome.next (receive_skipping hs hnoise)
  case credit =>
    intro n hlow hhigh
    refine congrArg Host.Outcome.next ((receive_encode hlisten (fieldsOk_credit hlow hhigh)).trans ?_)
    exact takeMessage_offline ha nofun
  case cancel =>
    intro tag htag
    refine congrArg Host.Outcome.next ((receive_encode hlisten (fieldsOk_cancel htag)).trans ?_)
    exact takeMessage_offline ha nofun
  case reset =>
    refine congrArg Host.Outcome.next ((receive_encode (m := .reset) hlisten rfl).trans ?_)
    exact takeMessage_offline ha nofun

/-! ### A LOOKUP refused (R118, R120, R121) -/

theorem send_eq_withMessages (s : State) (p : Stream) (ms : List OutMessage) : s.send p ms = withMessages s p ms := rfl

section Lookup

variable {s : State} {p : Stream} {tag : Byte} (key : Word) (first count : Nat)

theorem takeLookup_offline (ha : s.ports[p].active = false) :
    s.takeLookup p tag key first count = withMessages s p [.ended tag .notReady] := by
  unfold State.takeLookup
  simp only [ha, Bool.not_false, if_true, send_eq_withMessages]

theorem takeLookup_disabled (ha : s.ports[p].active = true) (he : s.ports[p].enabled = false) :
    s.takeLookup p tag key first count = withMessages s p [.ended tag .disabled] := by
  unfold State.takeLookup
  simp only [ha, he, Bool.not_false, Bool.not_true, Bool.false_eq_true, if_true, if_false, send_eq_withMessages]

/-- The tag of an accepted lookup that has not ended. -/
theorem takeLookup_tagInUse (ha : s.ports[p].active = true) (he : s.ports[p].enabled = true)
    (ht : ∃ l ∈ s.ports[p].queue, l.tag = tag) :
    s.takeLookup p tag key first count = withMessages s p [.notice (.tagInUse tag)] := by
  have hany : s.ports[p].queue.any (fun l => l.tag = tag) = true := by simpa using ht
  unfold State.takeLookup
  simp only [ha, he, hany, Bool.not_true, Bool.false_eq_true, if_true, if_false, send_eq_withMessages]

theorem any_tag_eq_false (ht : ∀ l ∈ s.ports[p].queue, l.tag ≠ tag) :
    s.ports[p].queue.any (fun l => l.tag = tag) = false := by simpa using ht

theorem takeLookup_queueFull (ha : s.ports[p].active = true) (he : s.ports[p].enabled = true)
    (ht : ∀ l ∈ s.ports[p].queue, l.tag ≠ tag) (hfull : 2 ≤ s.ports[p].queue.length) :
    s.takeLookup p tag key first count = withMessages s p [.ended tag .queueFull] := by
  unfold State.takeLookup
  simp only [ha, he, any_tag_eq_false ht, hfull, Bool.not_true, Bool.false_eq_true, if_true, if_false,
    send_eq_withMessages]

theorem takeLookup_unconfigured (ha : s.ports[p].active = true) (he : s.ports[p].enabled = true)
    (ht : ∀ l ∈ s.ports[p].queue, l.tag ≠ tag) (hroom : s.ports[p].queue.length < 2)
    (hview : s.views[p].config = none) :
    s.takeLookup p tag key first count = withMessages s p [.ended tag .unconfigured] := by
  unfold State.takeLookup
  simp only [ha, he, any_tag_eq_false ht, Nat.not_le.2 hroom, hview, Bool.not_true, Bool.false_eq_true, if_false,
    send_eq_withMessages]

theorem takeLookup_range (ha : s.ports[p].active = true) (he : s.ports[p].enabled = true)
    (ht : ∀ l ∈ s.ports[p].queue, l.tag ≠ tag) (hroom : s.ports[p].queue.length < 2) {c : ViewConfig}
    (hview : s.views[p].config = some c) (hrows : rowsWithin c.geometry.rows first count = false) :
    s.takeLookup p tag key first count = withMessages s p [.ended tag .range] := by
  unfold State.takeLookup
  simp only [ha, he, any_tag_eq_false ht, Nat.not_le.2 hroom, hview, hrows, Bool.not_true, Bool.false_eq_true, if_false,
    send_eq_withMessages]

end Lookup

theorem rowsWithin_eq_false {rows first count : Nat} (h : rows ≤ first ∨ (count ≠ 0 ∧ rows < first + count)) :
    rowsWithin rows first count = false := by
  simp only [rowsWithin, Bool.and_eq_false_iff, Bool.or_eq_false_iff, decide_eq_false_iff_not, not_lt, not_le]
  exact h

/-- A LOOKUP row on a port that listens is the LOOKUP taken. -/
theorem exec_lookup {s : State} {p : Stream} {tag : Byte} (hlisten : Listening s p) (htag : tag.toNat < 16) (key : Word)
    (first count : Byte) :
    exec (.lookup p tag key first count) s = .next (s.takeLookup p tag key first.toNat count.toNat) :=
  congrArg Host.Outcome.next (receive_encode hlisten (fieldsOk_lookup htag key first count))

/-- Settles O41: the checks of R121 in their order. -/
theorem lookupRefusedByFirstCheck : Obligations.LookupRefusedByFirstCheck := by
  unfold Obligations.LookupRefusedByFirstCheck
  intro s p tag key first count hlisten htag
  rw [exec_lookup hlisten htag]
  refine ⟨fun ha => ?notReady, fun ha => ⟨fun he => ?disabled, fun he => ⟨fun ht => ?tagInUse, fun ht => ?free⟩⟩⟩
  case notReady => rw [takeLookup_offline key _ _ ha]
  case disabled => rw [takeLookup_disabled key _ _ ha he]
  case tagInUse => rw [takeLookup_tagInUse key _ _ ha he ht]
  case free =>
    refine ⟨fun hfull => ?queueFull, fun hroom => ⟨fun hview => ?unconfigured, fun c hview hrows => ?range⟩⟩
    case queueFull => rw [takeLookup_queueFull key _ _ ha he ht hfull]
    case unconfigured => rw [takeLookup_unconfigured key _ _ ha he ht hroom hview]
    case range => rw [takeLookup_range key _ _ ha he ht hroom hview (rowsWithin_eq_false hrows)]

/-! ### CREDIT, CANCEL and the stall timer's expiry (R127, R129 to R131) -/

theorem takeCredit_eq (s : State) (p : Stream) (n : Nat) :
    s.takeCredit p n = withPort s p { s.ports[p] with
      credits := min (s.ports[p].credits + n) 4
      timer := .stopped
      out := s.ports[p].out ++ (if 4 < s.ports[p].credits + n then [.notice .creditOverflow] else []) } := by
  unfold State.takeCredit
  dsimp only
  split
  · rfl
  · rw [List.append_nil]
    rfl

section Cancel

variable {s : State} {p : Stream} {tag : Byte} {h w : Lookup} {rest : List Lookup}

theorem takeCancel_unknown (ht : ∀ l ∈ s.ports[p].queue, l.tag ≠ tag) :
    s.takeCancel p tag = withMessages s p [.notice (.unknownTag tag)] := by
  unfold State.takeCancel
  split
  · rfl
  · next h rest hq =>
    rw [hq] at ht
    obtain ⟨hh, hrest⟩ := List.forall_mem_cons.1 ht
    rw [if_neg hh]
    split
    · rfl
    · rw [if_neg (hrest _ List.mem_cons_self)]
      rfl

theorem takeCancel_waiting (hq : s.ports[p].queue = [h, w]) (hh : h.tag ≠ tag) (hw : w.tag = tag) :
    s.takeCancel p tag = waitingEnded s p h w [.ended tag .cancelled] := by
  unfold State.takeCancel
  simp only [hq, hh, hw, if_true, if_false]
  exact endWaiting_eq _ hq

theorem takeCancel_head (hq : s.ports[p].queue = h :: rest) (hh : h.tag = tag) (hg : h.granted = none) :
    s.takeCancel p tag = headEnded s p h rest [.ended tag .cancelled] := by
  unfold State.takeCancel
  simp only [hq, hh, hg, if_true]
  exact endHead_eq _ hq

/-- The head set cancelling (R131). -/
theorem cancelHead_eq {x : Port} (hq : x.queue = h :: rest) :
    x.cancelHead = { x with queue := { h with rowsOwed := [], cancelling := true } :: rest } := by
  unfold Port.cancelHead
  rw [hq]

/-- A head with a granted row is set cancelling, and stays (R131). -/
theorem takeCancel_granted (hq : s.ports[p].queue = h :: rest) (hh : h.tag = tag) (hg : h.granted ≠ none) :
    s.takeCancel p tag = withPort s p
      { s.ports[p] with queue := { h with rowsOwed := [], cancelling := true } :: rest } := by
  obtain ⟨r, hr⟩ := Option.ne_none_iff_exists'.1 hg
  unfold State.takeCancel
  simp only [hq, hh, hr, if_true, modPort_eq_withPort, cancelHead_eq hq]

end Cancel

theorem takeMessage_credit {s : State} {p : Stream} (ha : s.ports[p].active = true) (n : Byte) :
    s.takeMessage p (.credit n) = s.takeCredit p n.toNat := if_pos ha

theorem takeMessage_cancel {s : State} {p : Stream} (ha : s.ports[p].active = true) (tag : Byte) :
    s.takeMessage p (.cancel tag) = s.takeCancel p tag := if_pos ha

theorem takeMessage_reset {s : State} {p : Stream} (ha : s.ports[p].active = true) :
    s.takeMessage p .reset = s.takeReset p := if_pos ha

theorem expire_eq {s : State} {p : Stream} {h : Lookup} {rest : List Lookup} (hq : s.ports[p].queue = h :: rest) :
    s.expire p = headEnded s p h rest [.ended h.tag .stalled] := by
  unfold State.expire
  rw [hq]
  exact endHead_eq _ hq

theorem exec_stallExpiry_running {s : State} {p : Stream} {e limit : Nat}
    (ht : s.ports[p].timer = .running e limit) : exec (.stallExpiry p) s = .next (s.expire p) := by
  show execStallExpiry p s = _
  unfold execStallExpiry
  rw [ht]

theorem exec_stallExpiry_stopped {s : State} {p : Stream} (ht : s.ports[p].timer = .stopped) :
    exec (.stallExpiry p) s = .next s := by
  show execStallExpiry p s = _
  unfold execStallExpiry
  rw [ht]

/-- Settles O43: each message as the port takes it, and the timer running or stopped. -/
theorem creditCancelAndExpiryAct : Obligations.CreditCancelAndExpiryAct := by
  unfold Obligations.CreditCancelAndExpiryAct
  refine ⟨?credit, ?cancel, fun s p => ⟨exec_stallExpiry_stopped, fun e limit h rest ht hq => ?expiry⟩⟩
  case credit =>
    intro s p n hlisten ha hlow hhigh
    refine congrArg Host.Outcome.next ((receive_encode hlisten (fieldsOk_credit hlow hhigh)).trans ?_)
    exact (takeMessage_credit ha n).trans (takeCredit_eq s p n.toNat)
  case cancel =>
    intro s p tag hlisten ha htag
    have hrun : exec (.cancel p tag) s = .next (s.takeCancel p tag) :=
      congrArg Host.Outcome.next ((receive_encode hlisten (fieldsOk_cancel htag)).trans (takeMessage_cancel ha tag))
    rw [hrun]
    refine ⟨fun ht => ?unknown, fun h w hq hh hw => ?waiting, fun h rest hq hh => ⟨fun hg => ?head, fun hg => ?granted⟩⟩
    case unknown => rw [takeCancel_unknown ht]
    case waiting => rw [takeCancel_waiting hq hh hw]
    case head => rw [takeCancel_head hq hh hg]
    case granted => rw [takeCancel_granted hq hh hg]
  case expiry => rw [exec_stallExpiry_running ht, expire_eq hq]

/-! ### A link RESET, and the messages held behind it (R132, R133) -/

section Reset

variable {s : State} {p : Stream} {h w : Lookup} {rest : List Lookup}

theorem takeReset_empty (hq : s.ports[p].queue = []) : s.takeReset p = withPort s p
    { s.ports[p] with credits := 0, timer := .stopped, out := s.ports[p].out ++ [.notice .resetDone] } := by
  unfold State.takeReset
  rw [hq]
  rfl

theorem releaseRefs_ports (s : State) (sel : Selection) : (s.releaseRefs sel).ports = s.ports := by
  rw [releaseRefs_frame]

theorem foldl_releaseRefs_ports (l : List Lookup) (s : State) :
    (l.foldl (fun s l => s.releaseRefs l.selection) s).ports = s.ports := by
  induction l generalizing s with
  | nil => rfl
  | cons a l ih => rw [List.foldl_cons, ih, releaseRefs_ports]

theorem takeReset_none_granted (hq : s.ports[p].queue = h :: rest) (hg : h.granted = none) :
    s.takeReset p = withPort ((h :: rest).foldl (fun s l => s.releaseRefs l.selection) s) p { s.ports[p] with
      queue := [], credits := 0, timer := .stopped, out := s.ports[p].out ++ [.notice .resetDone] } := by
  unfold State.takeReset
  simp only [hq, hg, modPort_eq_withPort, foldl_releaseRefs_ports]

theorem resetHead_eq {x : Port} (hq : x.queue = h :: rest) :
    x.resetHead = { x with
      queue := { h with rowsOwed := [], resetting := true } :: rest, credits := 0, timer := .stopped } := by
  unfold Port.resetHead
  rw [hq]

theorem endWaiting_alone (hq : s.ports[p].queue = [h]) (ms : List OutMessage) : s.endWaiting p ms = s := by
  unfold State.endWaiting
  rw [hq]

theorem takeReset_granted (hq : s.ports[p].queue = h :: rest) (hg : h.granted ≠ none) :
    s.takeReset p = (s.endWaiting p []).modPort p Port.resetHead := by
  obtain ⟨r, hr⟩ := Option.ne_none_iff_exists'.1 hg
  unfold State.takeReset
  simp only [hq, hr]

theorem takeReset_granted_alone (hq : s.ports[p].queue = [h]) (hg : h.granted ≠ none) :
    s.takeReset p = withPort s p { s.ports[p] with
      queue := [{ h with rowsOwed := [], resetting := true }], credits := 0, timer := .stopped } := by
  rw [takeReset_granted hq hg, endWaiting_alone hq, modPort_eq_withPort, resetHead_eq hq]

theorem takeReset_granted_waiting (hq : s.ports[p].queue = [h, w]) (hg : h.granted ≠ none) :
    s.takeReset p = withPort (s.releaseRefs w.selection) p { s.ports[p] with
      queue := [{ h with rowsOwed := [], resetting := true }], credits := 0, timer := .stopped } := by
  rw [takeReset_granted hq hg, endWaiting_eq [] hq, modPort_eq_withPort]
  unfold waitingEnded
  rw [withPort_get_same, withPort_withPort, resetHead_eq rfl, List.append_nil]

theorem arrive_held (hr : s.ports[p].resetting = true) (hroom : s.ports[p].held.length < 8) (m : LinkMessage) :
    s.arrive p m = withPort s p { s.ports[p] with held := s.ports[p].held ++ [m] } := by
  unfold State.arrive
  rw [if_pos hr, if_pos hroom]
  rfl

theorem arrive_ninth (hr : s.ports[p].resetting = true) (hfull : 8 ≤ s.ports[p].held.length) (m : LinkMessage) :
    s.arrive p m = withMessages s p [.notice .badMessage] := by
  unfold State.arrive
  rw [if_pos hr, if_neg (Nat.not_lt.2 hfull)]
  rfl

end Reset

/-- Settles O44: the queue empty, its head with no granted row, its head with one alone or before another; then the
messages held. -/
theorem linkResetClearsThePort : Obligations.LinkResetClearsThePort := by
  unfold Obligations.LinkResetClearsThePort
  refine ⟨fun s p hlisten ha => ?reset, fun s p m hw hr hm => ?held⟩
  case reset =>
    have hrun : exec (.linkReset p) s = .next (s.takeReset p) :=
      congrArg Host.Outcome.next ((receive_encode (m := .reset) hlisten rfl).trans (takeMessage_reset ha))
    rw [hrun]
    refine ⟨fun hq => ?_, fun h rest hq hg => ?_, fun h hq hg => ?_, fun h w hq hg => ?_⟩
    · rw [takeReset_empty hq]
    · rw [takeReset_none_granted hq hg]
    · rw [takeReset_granted_alone hq hg]
    · rw [takeReset_granted_waiting hq hg]
  case held =>
    have hrun : exec (.linkMessageHeld p m) s = .next (s.arrive p m) :=
      congrArg Host.Outcome.next (receive_encode_arrives hw hm)
    rw [hrun]
    exact ⟨fun hroom => by rw [arrive_held hr hroom], fun hfull => by rw [arrive_ninth hr hfull]⟩

end Sys2Proof.LookupLink

/-! PROOFS. SET_PORT and QUERY_PORT, a parity fault reported for a row in production, and the step on an empty queue. -/

namespace Sys2Proof.LookupLink

open Sys2Proof Sys2Proof.Machine Sys2Proof.Safety Sys2Proof.ProfileTable Sys2Proof.SurfaceServing

/-! ### A port disabled, in the words of the statements (R134) -/

section Disable

variable {s : State} {p : Stream} {h w : Lookup}

theorem disablePort_alone (hq : s.ports[p].queue = [h]) (hg : h.granted = none) :
    s.disablePort p = headEnded s p h [] [.ended h.tag .cancelled] := by
  rw [disablePort_cons hq, if_pos hg]
  exact endHead_eq _ hq

theorem disablePort_waiting (hq : s.ports[p].queue = [h, w]) (hg : h.granted = none) :
    s.disablePort p =
      headEnded (waitingEnded s p h w [.ended w.tag .cancelled]) p h [] [.ended h.tag .cancelled] := by
  have hended : waitingDisabled s p [w] = waitingEnded s p h w [.ended w.tag .cancelled] := endWaiting_eq _ hq
  rw [disablePort_cons hq, if_pos hg, hended]
  refine endHead_eq _ ?_
  unfold waitingEnded
  rw [withPort_get_same]

theorem disablePort_granted (hq : s.ports[p].queue = [h]) (hr : h.resetting = false) (hg : h.granted ≠ none) :
    s.disablePort p = withPort s p
      { s.ports[p] with queue := [{ h with rowsOwed := [], cancelling := true }] } := by
  rw [disablePort_cons hq, if_neg hg, if_neg (ne_true_of_eq_false hr)]
  show s.modPort p Port.cancelHead = _
  rw [modPort_eq_withPort, cancelHead_eq hq]

theorem disablePort_granted_waiting (hq : s.ports[p].queue = [h, w]) (hr : h.resetting = false)
    (hg : h.granted ≠ none) : s.disablePort p =
      let first := waitingEnded s p h w [.ended w.tag .cancelled]
      withPort first p { first.ports[p] with queue := [{ h with rowsOwed := [], cancelling := true }] } := by
  have hended : waitingDisabled s p [w] = waitingEnded s p h w [.ended w.tag .cancelled] := endWaiting_eq _ hq
  have hqueue : (waitingEnded s p h w [.ended w.tag .cancelled]).ports[p].queue = [h] := by
    unfold waitingEnded
    rw [withPort_get_same]
  rw [disablePort_cons hq, if_neg hg, if_neg (ne_true_of_eq_false hr), hended, modPort_eq_withPort,
    cancelHead_eq hqueue]

theorem disablePort_resetting (hq : s.ports[p].queue = [h]) (hr : h.resetting = true) (hg : h.granted ≠ none) :
    s.disablePort p = s := by
  rw [disablePort_cons hq, if_neg hg, if_pos hr]
  rfl

end Disable

/-! ### A request's write commutes with what it does to a port -/

section Window

variable (s : State) (w : Window) (acks : List Bool)

theorem releaseLookupRef_selectWindow (i : EntryIndex) :
    (s.selectWindow w acks).releaseLookupRef i = (s.releaseLookupRef i).selectWindow w acks := by
  by_cases hd : Drains s i
  · rw [releaseLookupRef_drains hd, releaseLookupRef_drains (s := s.selectWindow w acks) hd]
    rfl
  · rw [releaseLookupRef_keeps hd, releaseLookupRef_keeps (s := s.selectWindow w acks) hd]
    rfl

theorem releaseRefs_selectWindow (sel : Selection) :
    (s.selectWindow w acks).releaseRefs sel = (s.releaseRefs sel).selectWindow w acks := by
  unfold State.releaseRefs
  generalize sel.sources = l
  induction l generalizing s with
  | nil => rfl
  | cons i l ih => rw [List.foldl_cons, releaseLookupRef_selectWindow, ih, List.foldl_cons]

theorem endHead_selectWindow (p : Stream) (ms : List OutMessage) :
    (s.selectWindow w acks).endHead p ms = (s.endHead p ms).selectWindow w acks := by
  cases hq : s.ports[p].queue with
  | nil =>
    unfold State.endHead
    simp only [selectWindow_ports, hq]
  | cons h rest =>
    rw [endHead_eq ms hq, endHead_eq (s := s.selectWindow w acks) ms hq]
    unfold headEnded
    rw [releaseRefs_selectWindow]
    cases rest <;> rfl

theorem endWaiting_selectWindow (p : Stream) (ms : List OutMessage) :
    (s.selectWindow w acks).endWaiting p ms = (s.endWaiting p ms).selectWindow w acks := by
  unfold State.endWaiting
  simp only [selectWindow_ports, releaseRefs_selectWindow]
  match s.ports[p].queue with
  | [] => rfl
  | [_] => rfl
  | _ :: _ :: _ => rfl

theorem waitingDisabled_selectWindow (p : Stream) (rest : List Lookup) :
    waitingDisabled (s.selectWindow w acks) p rest = (waitingDisabled s p rest).selectWindow w acks := by
  cases rest with
  | nil => rfl
  | cons l ls => exact endWaiting_selectWindow s w acks p _

theorem disablePort_selectWindow (p : Stream) :
    (s.selectWindow w acks).disablePort p = (s.disablePort p).selectWindow w acks := by
  cases hq : s.ports[p].queue with
  | nil => rw [disablePort_nil hq, disablePort_nil (s := s.selectWindow w acks) hq]
  | cons h rest =>
    rw [disablePort_cons hq, disablePort_cons (s := s.selectWindow w acks) hq, waitingDisabled_selectWindow,
      endHead_selectWindow]
    split
    · rfl
    · split <;> rfl

end Window

/-! ### SET_PORT and QUERY_PORT (R134, R135) -/

theorem flagOf_none {b : Byte} (h : 2 ≤ b.toNat) : flagOf b = none := by
  have h0 : b ≠ 0 := by
    rintro rfl
    exact absurd h (by decide)
  have h1 : b ≠ 1 := by
    rintro rfl
    exact absurd h (by decide)
  unfold flagOf
  rw [if_neg h0, if_neg h1]

theorem flagOf_some {b : Byte} (h : b = 0 ∨ b = 1) : flagOf b = some (decide (b = 1)) := by
  rcases h with rfl | rfl <;> rfl

/-- Port p with its two settings written. -/
def portSet (s : State) (p : Stream) (e limit : Byte) : State :=
  withPort s p { s.ports[p] with enabled := decide (e = 1), stallLimit := limit }

section SetPort

variable {s : State} {p : Stream} {tag b e limit : Byte}

theorem portSet_queue (e limit : Byte) : (portSet s p e limit).ports[p].queue = s.ports[p].queue := by
  unfold portSet
  rw [withPort_get_same]

theorem exec_setPort (hidle : s.engine = .idle) :
    exec (.setPort tag b e limit) s = .next (reqSetPort tag b e limit (taken s 6)) := next_onRequest hidle 6 _

theorem exec_setPort_range (hidle : s.engine = .idle) (h : streamOf b = none ∨ flagOf e = none) :
    exec (.setPort tag b e limit) s = .next (answered s 6 tag 0x40 .range []) := by
  rw [exec_setPort hidle]
  unfold reqSetPort
  split
  · next p f hp hf =>
    rcases h with h | h
    · rw [h] at hp
      cases hp
    · rw [h] at hf
      cases hf
  · rfl

/-- SET_PORT with its byte values in range: the settings are written, and where the port changes from ENABLED to
DISABLED its lookups end. -/
theorem exec_setPort_ok (hidle : s.engine = .idle) (hb : StreamByte b p) (he : e = 0 ∨ e = 1) :
    exec (.setPort tag b e limit) s = .next (if s.ports[p].enabled = true ∧ e = 0
      then answered ((portSet s p e limit).disablePort p) 6 tag 0x40 .ok
        [b, e, limit, byteOf s.ports[p].endedByDisable]
      else answered (portSet s p e limit) 6 tag 0x40 .ok [b, e, limit, 0]) := by
  have hset : (taken s 6).modPort p (fun x => { x with enabled := decide (e = 1), stallLimit := limit }) =
      (portSet s p e limit).selectWindow .request (List.replicate 7 true) := rfl
  rw [exec_setPort hidle]
  unfold reqSetPort
  rw [streamOf_some hb, flagOf_some he]
  dsimp only
  rw [hset, disablePort_selectWindow]
  have hports : (taken s 6).ports = s.ports := rfl
  rw [hports]
  rcases he with rfl | rfl <;> cases s.ports[p].enabled <;> rfl

end SetPort

theorem exec_queryPort {s : State} {tag b : Byte} (hidle : s.engine = .idle) :
    exec (.queryPort tag b) s = .next (reqQueryPort tag b (taken s 4)) := next_onRequest hidle 4 _

/-- A lookup's bytes in QUERY_PORT's data. -/
theorem lookup_bytes_eq (l : Lookup) :
    l.bytes = [l.tag, byteOf l.rowsSent, byteOf l.rowsOwed.length, if l.granted = none then 0 else 1,
      if l.cancelling then 1 else 0, if l.resetting then 1 else 0] := by
  unfold Lookup.bytes flagByte
  cases l.granted <;> rfl

theorem port_bytes_eq {p : Stream} {b : Byte} (hb : StreamByte b p) (x : Port) :
    x.bytes p = [b, if x.active then 1 else 0, if x.enabled then 1 else 0, byteOf x.credits, x.stallLimit,
      if x.timer = .stopped then 0 else 1, byteOf x.queue.length] ++ x.queue.flatMap (fun l =>
        [l.tag, byteOf l.rowsSent, byteOf l.rowsOwed.length, if l.granted = none then 0 else 1,
          if l.cancelling then 1 else 0, if l.resetting then 1 else 0]) := by
  unfold Port.bytes
  rw [streamByte_eq hb, List.flatMap_congr (fun l _ => lookup_bytes_eq l)]
  cases x.timer <;> rfl

/-- The lookups that a disable ends, counted: each of a queue whose lookups are not resetting. -/
theorem endedByDisable_eq {x : Port} (h : ∀ l ∈ x.queue, l.resetting = false) :
    x.endedByDisable = x.queue.length := by
  unfold Port.endedByDisable
  rw [List.filter_eq_self.2 (fun l hl => by rw [h l hl]; rfl)]

/-- Settles O46: the ranges, the settings, and the queue that a disable meets. -/
theorem setPortAndQueryPort : Obligations.SetPortAndQueryPort := by
  unfold Obligations.SetPortAndQueryPort
  intro s tag b e limit hidle
  refine ⟨fun hb => ⟨?rangePort, ?rangeQuery⟩, fun he => ?rangeFlag, ?inRange⟩
  case rangePort => exact exec_setPort_range hidle (Or.inl (streamOf_none hb))
  case rangeQuery =>
    rw [exec_queryPort hidle]
    unfold reqQueryPort
    rw [streamOf_none hb]
    rfl
  case rangeFlag => exact exec_setPort_range hidle (Or.inr (flagOf_none he))
  case inRange =>
    intro p hb set act done
    have hquery : exec (.queryPort tag b) s = .next (answered s 4 tag 0x41 .ok (s.ports[p].bytes p)) := by
      rw [exec_queryPort hidle]
      unfold reqQueryPort
      rw [streamOf_some hb]
      rfl
    rw [hquery, port_bytes_eq hb]
    refine ⟨?written, ?disabled, rfl⟩
    case written =>
      intro he
      have hact := exec_setPort_ok (tag := tag) (limit := limit) hidle hb (he.symm.imp And.left id)
      refine hact.trans (congrArg _ (if_neg ?_))
      rintro ⟨hon, rfl⟩
      rcases he with he | ⟨-, hoff⟩
      · cases he
      · rw [hon] at hoff
        cases hoff
    case disabled =>
      intro he hon
      have hact : act = done (set.disablePort p) (byteOf s.ports[p].endedByDisable) :=
        (exec_setPort_ok hidle hb (Or.inl he)).trans (congrArg _ (if_pos ⟨hon, he⟩))
      have hqueue : set.ports[p].queue = s.ports[p].queue := portSet_queue e limit
      have hcount : ∀ q : List Lookup, s.ports[p].queue = q → (∀ l ∈ q, l.resetting = false) →
          s.ports[p].endedByDisable = q.length := fun q hq hr => by
        rw [← hq] at hr ⊢
        exact endedByDisable_eq hr
      refine ⟨fun hq => ?empty, fun h hq hr hg => ?alone, fun h w hq hr hrw hg => ?waiting, fun h hq hr hg => ?granted,
        fun h w hq hr hrw hg => ?grantedWaiting, fun h hq hr hg => ?resetting⟩
      case empty =>
        rw [hact, hcount [] hq nofun, disablePort_nil (hqueue.trans hq)]
        rfl
      case alone =>
        rw [hact, hcount [h] hq (by simp [hr]), disablePort_alone (hqueue.trans hq) hg]
        rfl
      case waiting =>
        rw [hact, hcount [h, w] hq (by simp [hr, hrw]), disablePort_waiting (hqueue.trans hq) hg]
        rfl
      case granted =>
        rw [hact, hcount [h] hq (by simp [hr]), disablePort_granted (hqueue.trans hq) hr hg]
        rfl
      case grantedWaiting =>
        rw [hact, hcount [h, w] hq (by simp [hr, hrw]), disablePort_granted_waiting (hqueue.trans hq) hr hg]
        rfl
      case resetting =>
        have hnone : s.ports[p].endedByDisable = 0 := by
          unfold Port.endedByDisable
          rw [hq, List.filter_cons_of_neg (by rw [hr]; exact Bool.false_ne_true)]
          rfl
        rw [hact, hnone, disablePort_resetting (hqueue.trans hq) hr hg]
        rfl

/-! ### A parity fault reported (R131, R133, R142, R143) -/

section Faults

variable {s : State} {d : Producing} {h : Lookup} {rest : List Lookup}

theorem exec_faultReport_fault {i : EntryIndex} (hd : s.datapath = some d) (hq : s.ports[d.port].queue = h :: rest)
    (hks : s.rowKnots h d.row = .error i) : exec .faultReport s = .next (s.reportFault d.port h i) := by
  show execFaultReport s = _
  unfold execFaultReport
  simp only [hd, hq, hks]

theorem exec_faultReport_good {ks : List Knot} (hd : s.datapath = some d) (hq : s.ports[d.port].queue = h :: rest)
    (hks : s.rowKnots h d.row = .ok ks) : exec .faultReport s = .next s := by
  show execFaultReport s = _
  unfold execFaultReport
  simp only [hd, hq, hks]

theorem exec_handover_fault {i : EntryIndex} (hd : s.datapath = some d) (hq : s.ports[d.port].queue = h :: rest)
    (hks : s.rowKnots h d.row = .error i) : exec .handover s = .next s := by
  show execHandover s = _
  unfold execHandover
  simp only [hd, hq, hks]

end Faults

/-- Settles O49: the fault met, no fault, and no row in production. -/
theorem faultReportEndsHead : Obligations.FaultReportEndsHead := by
  unfold Obligations.FaultReportEndsHead
  refine ⟨?fault, fun s d h rest ks hd hq hks => exec_faultReport_good hd hq hks, fun s hd => ⟨?noRow, ?noRowFault⟩⟩
  case fault =>
    intro s d h rest i hd hq hks p marked
    have hports : marked.ports = s.ports :=
      (congrArg State.ports (reportDamage_eq s i)).symm.trans (reportDamage_ports s i)
    have hqueue : marked.ports[p].queue = h :: rest := by rw [hports]; exact hq
    have hreport : s.reportFault p h i =
        if h.resetting then marked.finishReset p else marked.endHead p [.ended h.tag .damaged] := by
      unfold State.reportFault
      rw [reportDamage_eq]
    rw [exec_faultReport_fault hd hq hks, hreport]
    refine ⟨fun hr => ?_, fun hr hrest => ?_, exec_handover_fault hd hq hks⟩
    · rw [if_neg (ne_true_of_eq_false hr), endHead_eq _ hqueue]
    · subst hrest
      rw [if_pos hr, finishReset_eq hqueue, hports]
  case noRow =>
    show execHandover s = _
    unfold execHandover
    rw [hd]
  case noRowFault =>
    show execFaultReport s = _
    unfold execFaultReport
    rw [hd]

/-! ### The step on an empty queue (R128, R129) -/

theorem due_iff (x : Port) : x.timer.due = true ↔ ∃ e l, x.timer = .running e l ∧ l * 25000 ≤ e := by
  cases x.timer with
  | stopped => exact ⟨nofun, fun ⟨_, _, ht, _⟩ => nomatch ht⟩
  | running e l =>
    refine ⟨fun h => ⟨e, l, rfl, of_decide_eq_true h⟩, ?_⟩
    rintro ⟨e', l', ⟨rfl, rfl⟩, h⟩
    exact decide_eq_true h

theorem duePort_none {s : State} (h : ∀ p : Stream, s.ports[p].timer.due = false) : s.duePort = none :=
  List.find?_eq_none.2 fun p _ hp => Bool.false_ne_true ((h p).symm.trans hp)

theorem due_eq_false {x : Port} (h : ∀ e l, x.timer = .running e l → e < l * 25000) : x.timer.due = false := by
  refine Bool.eq_false_iff.2 (mt (due_iff x).1 ?_)
  rintro ⟨e, l, ht, hle⟩
  exact absurd hle (Nat.not_le.2 (h e l ht))

/-- The streams below p, then p, then the others. -/
theorem allStreams_split (p : Stream) : ∃ before after, allStreams = before ++ p :: after ∧ ∀ q ∈ before, q < p := by
  fin_cases p
  · exact ⟨[], [1, 2, 3], rfl, by decide⟩
  · exact ⟨[0], [2, 3], rfl, by decide⟩
  · exact ⟨[0, 1], [3], rfl, by decide⟩
  · exact ⟨[0, 1, 2], [], rfl, by decide⟩

/-- The lowest port whose timer is due. -/
theorem duePort_some {s : State} {p : Stream} (h : s.ports[p].timer.due = true)
    (hlow : ∀ q : Stream, q < p → s.ports[q].timer.due = false) : s.duePort = some p := by
  obtain ⟨before, after, hlist, hbefore⟩ := allStreams_split p
  refine List.find?_eq_some_iff_append.2 ⟨h, before, after, hlist, fun q hq => ?_⟩
  rw [hlow q (hbefore q hq)]
  rfl

theorem advanceTimers_ports (s : State) (p : Stream) :
    s.advanceTimers.ports[p] = { s.ports[p] with timer := s.ports[p].timer.advance } := by
  unfold State.advanceTimers
  rw [foldl_modPort_ports _ _ nodup_allStreams, if_pos (mem_allStreams p)]

theorem advanceTimers_frame (s : State) : s.advanceTimers = { s with ports := s.advanceTimers.ports } :=
  foldl_modPort_frame allStreams s _

theorem step_empty {s : State} (h : s.pending = []) : step s = .next s.tick := by
  unfold step
  rw [h]

/-- Settles O3: no timer due, or the lowest one that is. -/
theorem idleStepIsOneRefclkPeriod : Obligations.IdleStepIsOneRefclkPeriod := by
  unfold Obligations.IdleStepIsOneRefclkPeriod
  refine ⟨fun s hp hrun => ?period, fun s p e l hp ht hle hlow => ?expiry⟩
  case period =>
    have htick : s.tick = s.advanceTimers := by
      unfold State.tick
      rw [duePort_none fun p => due_eq_false (hrun p)]
    refine ⟨s.advanceTimers, by rw [step_empty hp, htick], advanceTimers_frame s, fun p => ?_⟩
    rw [advanceTimers_ports]
    cases s.ports[p].timer <;> rfl
  case expiry =>
    have hdue : s.ports[p].timer.due = true := (due_iff _).2 ⟨e, l, ht, hle⟩
    have htick : s.tick = s.expire p := by
      unfold State.tick
      rw [duePort_some hdue fun q hq => due_eq_false fun e' l' => hlow q e' l' hq]
    rw [step_empty hp, exec_stallExpiry_running ht, htick]

end Sys2Proof.LookupLink

/-! PROOFS. The law of a port by its queue, what one event does to a port's record, and the ENDs that it makes. -/

namespace Sys2Proof.LookupLink

open Sys2Proof Sys2Proof.Machine Sys2Proof.Safety Sys2Proof.ProfileTable Sys2Proof.SurfaceServing

/-! ### The law of a port, its queue empty or with a head (R117, R122, R125, R128, R133) -/

/-- The law of a port whose queue is empty. -/
structure Vacant (x : Port) : Prop where
  credits : x.credits ≤ 4
  timer : x.timer = .stopped
  held : x.held = []
  offline : x.active = false → x.credits = 0

/-- The law of a port whose queue is the head h and, behind it, the rest. -/
structure Headed (x : Port) (h : Lookup) (rest : List Lookup) : Prop where
  room : rest.length ≤ 1
  tags : ∀ w ∈ rest, w.tag ≠ h.tag
  waiting : ∀ w ∈ rest, WaitingOk w
  credits : x.credits ≤ 4
  timer : ∀ e limit, x.timer = .running e limit →
    limit ≠ 0 ∧ x.credits = 0 ∧ h.rowsOwed ≠ [] ∧ h.granted = none ∧ h.cancelling = false
  head : HeadOk h
  row : h.granted.isSome → h.resetting = false → 1 ≤ x.credits
  reset : h.resetting = true → rest = [] ∧ x.credits = 0
  held : x.held.length ≤ 8
  holding : x.held ≠ [] → h.resetting = true
  active : x.active = true

theorem timerOk_iff {x : Port} : TimerOk x ↔ ∀ e limit, x.timer = .running e limit →
    limit ≠ 0 ∧ x.credits = 0 ∧
      ∃ h rest, x.queue = h :: rest ∧ h.rowsOwed ≠ [] ∧ h.granted = none ∧ h.cancelling = false := by
  unfold TimerOk
  cases x.timer with
  | stopped => exact ⟨fun _ _ _ ht => (nomatch ht), fun _ => trivial⟩
  | running e limit =>
    refine ⟨fun h e' limit' ht => ?_, fun h => h e limit rfl⟩
    cases ht
    exact h

theorem resetting_nil {x : Port} (hq : x.queue = []) : x.resetting = false := by
  unfold Port.resetting
  rw [hq]

theorem resetting_cons {x : Port} {h : Lookup} {rest : List Lookup} (hq : x.queue = h :: rest) :
    x.resetting = h.resetting := by
  unfold Port.resetting
  rw [hq]

theorem portOk_vacant {x : Port} (hq : x.queue = []) : PortOk x ↔ Vacant x := by
  unfold PortOk
  rw [timerOk_iff, resetting_nil hq, hq]
  constructor
  · rintro ⟨-, -, hcredits, -, htimer, -, -, hholding, hoffline⟩
    refine ⟨hcredits, ?_, ?_, fun ha => (hoffline ha).2.1⟩
    · cases ht : x.timer with
      | stopped => rfl
      | running e limit =>
        obtain ⟨-, -, h, rest, hcons, -⟩ := htimer e limit ht
        cases hcons
    · by_contra hne
      exact Bool.false_ne_true (hholding hne)
  · rintro ⟨hcredits, htimer, hheld, hoffline⟩
    rw [htimer, hheld]
    exact ⟨Nat.zero_le 2, List.nodup_nil, hcredits, Nat.zero_le 8, nofun, nofun, nofun, fun h => absurd rfl h,
      fun ha => ⟨rfl, hoffline ha, rfl⟩⟩

theorem portOk_headed {x : Port} {h : Lookup} {rest : List Lookup} (hq : x.queue = h :: rest) :
    PortOk x ↔ Headed x h rest := by
  unfold PortOk
  rw [timerOk_iff, resetting_cons hq, hq]
  constructor
  · rintro ⟨hroom, htags, hcredits, hheld, htimer, hhead, hwaiting, hholding, hoffline⟩
    obtain ⟨hh, hrow, hreset⟩ := hhead h rfl
    obtain ⟨htag, -⟩ := List.nodup_cons.1 htags
    refine ⟨Nat.le_of_succ_le_succ hroom, fun w hw heq => htag (List.mem_map.2 ⟨w, hw, heq⟩), hwaiting, hcredits, ?_,
      hh, hrow, ?_, hheld, hholding, ?_⟩
    · intro e limit ht
      obtain ⟨hlimit, hzero, h', rest', hcons, howed⟩ := htimer e limit ht
      cases hcons
      exact ⟨hlimit, hzero, howed⟩
    · intro hr
      obtain ⟨hlength, hzero⟩ := hreset hr
      exact ⟨List.length_eq_zero_iff.1 (Nat.succ.inj hlength), hzero⟩
    · by_contra hoff
      obtain ⟨hnil, -⟩ := hoffline (Bool.eq_false_iff.2 hoff)
      cases hnil
  · intro hx
    have htags : (List.map (fun l => l.tag) (h :: rest)).Nodup := by
      refine List.nodup_cons.2 ⟨fun hmem => ?_, ?_⟩
      · obtain ⟨w, hw, heq⟩ := List.mem_map.1 hmem
        exact hx.tags w hw heq
      · match rest, hx.room with
        | [], _ => exact List.nodup_nil
        | [w], _ => exact List.nodup_singleton _
    refine ⟨Nat.succ_le_succ hx.room, htags, hx.credits, hx.held, ?_, ?_, hx.waiting, hx.holding, ?_⟩
    · intro e limit ht
      obtain ⟨hlimit, hzero, howed⟩ := hx.timer e limit ht
      exact ⟨hlimit, hzero, h, rest, rfl, howed⟩
    · rintro l ⟨rfl⟩
      refine ⟨hx.head, hx.row, fun hr => ?_⟩
      obtain ⟨rfl, hzero⟩ := hx.reset hr
      exact ⟨rfl, hzero⟩
    · intro hoff
      rw [hx.active] at hoff
      cases hoff

/-- The law of a port goes by its queue, credits, timer, held messages and ACTIVE flag. -/
theorem portOk_congr {x y : Port} (hx : PortOk x) (hq : y.queue = x.queue) (hc : y.credits = x.credits)
    (ht : y.timer = x.timer) (hh : y.held = x.held) (ha : y.active = x.active) : PortOk y := by
  cases hqueue : x.queue with
  | nil =>
    obtain ⟨hcredits, htimer, hheld, hoffline⟩ := (portOk_vacant hqueue).1 hx
    exact (portOk_vacant (hq.trans hqueue)).2
      ⟨hc ▸ hcredits, ht.trans htimer, hh.trans hheld, by rw [ha, hc]; exact hoffline⟩
  | cons h rest =>
    have hk := (portOk_headed hqueue).1 hx
    exact (portOk_headed (hq.trans hqueue)).2 ⟨hk.room, hk.tags, hk.waiting, hc ▸ hk.credits,
      by rw [ht, hc]; exact hk.timer, hk.head, hc ▸ hk.row, hc ▸ hk.reset, hh ▸ hk.held, hh ▸ hk.holding,
      ha.trans hk.active⟩

namespace Headed

variable {x : Port} {h : Lookup} {rest : List Lookup}

/-- The timer of a port whose head has a granted row does not run (R128). -/
theorem timer_stopped (hx : Headed x h rest) (hg : h.granted ≠ none) : x.timer = .stopped := by
  cases ht : x.timer with
  | stopped => rfl
  | running e limit =>
    obtain ⟨-, -, -, hnone, -⟩ := hx.timer e limit ht
    exact absurd hnone hg

theorem not_resetting (hx : Headed x h rest) (hg : h.granted = none) : h.resetting = false := by
  obtain ⟨hwait, -, -⟩ := hx.head
  exact (hwait hg).2.2

theorem held_nil (hx : Headed x h rest) (hr : h.resetting = false) : x.held = [] := by
  by_contra hne
  exact Bool.false_ne_true (hr.symm.trans (hx.holding hne))

end Headed

/-! ### The granted row of a head (R136) -/

/-- The tag of a port's head and its granted row. -/
def headGrant (x : Port) : Option (Byte × Nat) := x.queue.head?.bind (fun h => h.granted.map (fun r => (h.tag, r)))

theorem headGrant_congr {x y : Port} (hq : y.queue = x.queue) : headGrant y = headGrant x := by
  unfold headGrant
  rw [hq]

theorem headGrant_nil {x : Port} (hq : x.queue = []) : headGrant x = none := by
  unfold headGrant
  rw [hq]
  rfl

theorem headGrant_cons {x : Port} {h : Lookup} {rest : List Lookup} (hq : x.queue = h :: rest) :
    headGrant x = h.granted.map (fun r => (h.tag, r)) := by
  unfold headGrant
  rw [hq]
  rfl

theorem headGrant_eq_none {x : Port} {h : Lookup} {rest : List Lookup} (hq : x.queue = h :: rest) :
    headGrant x = none ↔ h.granted = none := by
  rw [headGrant_cons hq, Option.map_eq_none_iff]

theorem headGrant_eq_some {x : Port} {h : Lookup} {rest : List Lookup} (hq : x.queue = h :: rest) {tag : Byte}
    {r : Nat} : headGrant x = some (tag, r) ↔ h.tag = tag ∧ h.granted = some r := by
  rw [headGrant_cons hq, Option.map_eq_some_iff]
  constructor
  · rintro ⟨r', hr, heq⟩
    cases heq
    exact ⟨rfl, hr⟩
  · rintro ⟨rfl, hr⟩
    exact ⟨r, hr, rfl⟩

/-- The law of serving, port by port, and the row in production as the one granted row of a head (R136). -/
theorem servingLaw_iff {s : State} : ServingLaw s ↔
    (∀ p : Stream, PortOk s.ports[p] ∧ s.ports[p].active = !isStarting s) ∧
      ∀ d, s.datapath = some d ↔ headGrant s.ports[d.port] = some (d.tag, d.row) := by
  refine and_congr_right fun _ => ⟨?_, fun hrow => ⟨?_, ?_⟩⟩
  · rintro ⟨hok, hhead⟩ d
    constructor
    · intro hd
      obtain ⟨h, rest, hq, htag, hg⟩ := hhead d hd
      exact (headGrant_eq_some hq).2 ⟨htag, hg⟩
    · intro hd
      cases hq : s.ports[d.port].queue with
      | nil =>
        rw [headGrant_nil hq] at hd
        cases hd
      | cons h rest =>
        obtain ⟨htag, hg⟩ := (headGrant_eq_some hq).1 hd
        have hdatapath := (hok d.port h (by rw [hq]; rfl) d.row).1 hg
        rw [hdatapath, htag]
  · intro p l hl r
    obtain ⟨rest, hq⟩ := List.head?_eq_some_iff.1 hl
    rw [hrow, headGrant_eq_some hq]
    exact ⟨fun hg => ⟨rfl, hg⟩, fun hg => hg.2⟩
  · intro d hd
    have hg := (hrow d).1 hd
    cases hq : s.ports[d.port].queue with
    | nil =>
      rw [headGrant_nil hq] at hg
      cases hg
    | cons h rest =>
      obtain ⟨htag, hg⟩ := (headGrant_eq_some hq).1 hg
      exact ⟨h, rest, rfl, htag, hg⟩

/-! ### The ENDs that an event makes (R123) -/

/-- The tag of the accepted lookup that a message ends. -/
def endTag : OutMessage → Option Byte
  | .ended t .complete => some t
  | .ended t .degraded => some t
  | .ended t .fallback => some t
  | .ended t .cancelled => some t
  | .ended t .stalled => some t
  | .ended t .damaged => some t
  | _ => none

theorem isEndOf_eq (tag : Byte) (m : OutMessage) : isEndOf tag m = decide (endTag m = some tag) := by
  cases m with
  | ended t status => cases status <;> simp [isEndOf, endTag]
  | header hd => rfl
  | row t r ks => rfl
  | notice n => rfl

/-- Messages that end no accepted lookup and no reset. -/
def Quiet (ms : List OutMessage) : Prop := ∀ m ∈ ms, endTag m = none ∧ m ≠ .notice .resetDone

theorem quiet_nil : Quiet [] := nofun

theorem quiet_singleton {m : OutMessage} (h : endTag m = none) (hne : m ≠ .notice .resetDone) : Quiet [m] := by
  intro m' hm
  rw [List.mem_singleton.1 hm]
  exact ⟨h, hne⟩

/-- Each END that an event makes outside a reset counts once. -/
theorem length_endsMade {made : List OutMessage} (hdone : OutMessage.notice .resetDone ∉ made) (tag : Byte) :
    (endsMade tag made).length = (made.filterMap endTag).count tag := by
  have hall : made.takeWhile (fun m => m ≠ .notice .resetDone) = made :=
    List.takeWhile_eq_self_iff.2 fun m hm => decide_eq_true fun heq => hdone (heq ▸ hm)
  have hfilter : ∀ ms : List OutMessage, (ms.filter (isEndOf tag)).length = (ms.filterMap endTag).count tag := by
    intro ms
    induction ms with
    | nil => rfl
    | cons m ms ih =>
      rw [List.filter_cons, List.filterMap_cons, isEndOf_eq]
      cases hm : endTag m with
      | none => simpa using ih
      | some t =>
        by_cases ht : t = tag
        · simp [ht, ih]
        · simp [ht, ih]
  unfold endsMade
  rw [hall, hfilter]

/-- An event that makes one END for each of these tags of lookups, which leave, and keeps the other lookups. -/
theorem endsOnce_of_ended {x y : Port} {made : List OutMessage} {ended : List Byte} (hout : y.out = x.out ++ made)
    (hmade : made.filterMap endTag = ended) (hdone : OutMessage.notice .resetDone ∉ made) (hnodup : ended.Nodup)
    (hfrom : ∀ tag ∈ ended, ∃ l ∈ x.queue, l.tag = tag)
    (hgone : ∀ l ∈ x.queue, l.tag ∈ ended → ∀ l' ∈ y.queue, l'.tag ≠ l.tag)
    (hkept : ∀ l ∈ x.queue, l.tag ∉ ended → ∃ l' ∈ y.queue, l'.tag = l.tag ∧ l'.selection = l.selection) :
    EndsOnce x y := by
  have hlength : ∀ tag, (endsMade tag made).length = ended.count tag := fun tag => hmade ▸ length_endsMade hdone tag
  have hnone : ∀ tag, tag ∉ ended → endsMade tag made = [] := fun tag htag =>
    List.length_eq_zero_iff.1 ((hlength tag).trans (List.count_eq_zero.2 htag))
  refine ⟨made, hout, fun l hl => ?_, fun tag htag => hfrom tag (by_contra fun hno => htag (hnone tag hno))⟩
  by_cases hmem : l.tag ∈ ended
  · exact Or.inr (Or.inl ⟨(hlength _).trans (List.count_eq_one_of_mem hnodup hmem), hgone l hl hmem⟩)
  · exact Or.inl ⟨hnone _ hmem, hkept l hl hmem⟩

/-- An event that ends no lookup. -/
theorem endsOnce_of_kept {x y : Port} {made : List OutMessage} (hout : y.out = x.out ++ made) (hquiet : Quiet made)
    (hkept : ∀ l ∈ x.queue, ∃ l' ∈ y.queue, l'.tag = l.tag ∧ l'.selection = l.selection) : EndsOnce x y := by
  refine endsOnce_of_ended (ended := []) hout (List.filterMap_eq_nil_iff.2 fun m hm => (hquiet m hm).1)
    (fun hm => (hquiet _ hm).2 rfl) List.nodup_nil nofun ?_ fun l hl _ => hkept l hl
  exact fun l _ hmem => absurd hmem List.not_mem_nil

theorem endsOnce_of_same_queue {x y : Port} {made : List OutMessage} (hout : y.out = x.out ++ made)
    (hquiet : Quiet made) (hq : y.queue = x.queue) : EndsOnce x y :=
  endsOnce_of_kept hout hquiet fun l hl => ⟨l, by rw [hq]; exact hl, rfl, rfl⟩

theorem endsOnce_refl (x : Port) : EndsOnce x x := endsOnce_of_same_queue (List.append_nil _).symm quiet_nil rfl

/-- An event that makes a RESET_DONE before any END. -/
theorem endsOnce_of_resetDone {x y : Port} {more : List OutMessage}
    (hout : y.out = x.out ++ .notice .resetDone :: more) : EndsOnce x y := by
  have hnone : ∀ tag, endsMade tag (.notice .resetDone :: more) = [] := by
    intro tag
    unfold endsMade
    rw [List.takeWhile_cons_of_neg (by simp)]
    rfl
  exact ⟨_, hout, fun l _ => Or.inr (Or.inr (Or.inr ⟨hnone _, List.mem_cons_self⟩)),
    fun tag htag => absurd (hnone tag) htag⟩

/-- ENDs go by queues and messages made. -/
theorem endsOnce_congr {x x' y : Port} (hq : x'.queue = x.queue) (hout : x'.out = x.out) (h : EndsOnce x' y) :
    EndsOnce x y := by
  unfold EndsOnce at h ⊢
  rwa [hq, hout] at h

section Ends

variable {x y : Port} {h w : Lookup} {rest : List Lookup} {made : List OutMessage}

/-- An event whose one END is the head's, which leaves. -/
theorem endsOnce_head (hx : Headed x h rest) (hq : x.queue = h :: rest) (hy : y.queue = rest)
    (hout : y.out = x.out ++ made) (hmade : made.filterMap endTag = [h.tag])
    (hdone : OutMessage.notice .resetDone ∉ made) : EndsOnce x y := by
  have hrest : ∀ l ∈ rest, l.tag ∉ [h.tag] := fun l hl hmem => hx.tags l hl (List.mem_singleton.1 hmem)
  refine endsOnce_of_ended hout hmade hdone (List.nodup_singleton _) ?_ ?_ ?_
  · intro tag htag
    exact ⟨h, by rw [hq]; exact List.mem_cons_self, (List.mem_singleton.1 htag).symm⟩
  · rw [hy]
    intro l _ hmem l' hl' heq
    exact hrest l' hl' (heq ▸ hmem)
  · rw [hq, hy]
    intro l hl hmem
    rcases List.mem_cons.1 hl with rfl | hl
    · exact absurd (List.mem_singleton.2 rfl) hmem
    · exact ⟨l, hl, rfl, rfl⟩

/-- An event whose one END is the waiting lookup's; the head stays, with its tag and selection. -/
theorem endsOnce_waiting {h' : Lookup} (hx : Headed x h [w]) (hq : x.queue = [h, w]) (hy : y.queue = [h'])
    (htag : h'.tag = h.tag) (hsel : h'.selection = h.selection) (hout : y.out = x.out ++ made)
    (hmade : made.filterMap endTag = [w.tag]) (hdone : OutMessage.notice .resetDone ∉ made) : EndsOnce x y := by
  have hne : w.tag ≠ h.tag := hx.tags w List.mem_cons_self
  refine endsOnce_of_ended hout hmade hdone (List.nodup_singleton _) ?_ ?_ ?_
  · intro tag ht
    exact ⟨w, by rw [hq]; exact List.mem_cons_of_mem _ List.mem_cons_self, (List.mem_singleton.1 ht).symm⟩
  · rw [hy]
    intro l _ hmem l' hl'
    rw [List.mem_singleton.1 hl', htag, List.mem_singleton.1 hmem]
    exact hne.symm
  · rw [hq, hy]
    intro l hl hmem
    rcases List.mem_cons.1 hl with rfl | hl
    · exact ⟨h', List.mem_singleton.2 rfl, htag, hsel⟩
    · rw [List.mem_singleton.1 hl] at hmem
      exact absurd (List.mem_singleton.2 rfl) hmem

/-- An event that ends the whole of a queue of two, one END each. -/
theorem endsOnce_both (hx : Headed x h [w]) (hq : x.queue = [h, w]) (hy : y.queue = []) (hout : y.out = x.out ++ made)
    (hmade : made.filterMap endTag = [w.tag, h.tag]) (hdone : OutMessage.notice .resetDone ∉ made) : EndsOnce x y := by
  have hne : w.tag ≠ h.tag := hx.tags w List.mem_cons_self
  refine endsOnce_of_ended hout hmade hdone (by simpa using hne) ?_ ?_ ?_
  · rw [hq]
    intro tag ht
    rcases List.mem_pair.1 ht with rfl | rfl
    · exact ⟨w, List.mem_cons_of_mem _ List.mem_cons_self, rfl⟩
    · exact ⟨h, List.mem_cons_self, rfl⟩
  · rw [hy]
    exact fun _ _ _ l' hl' => absurd hl' List.not_mem_nil
  · rw [hq]
    intro l hl hmem
    rcases List.mem_pair.1 hl with rfl | rfl
    · exact absurd (List.mem_pair.2 (Or.inr rfl)) hmem
    · exact absurd (List.mem_pair.2 (Or.inl rfl)) hmem

/-- An event of a reset that waits for its head's granted row: it makes no END and leaves the head alone, resetting. -/
theorem endsOnce_resetting {h' : Lookup} (hq : x.queue = h :: rest) (hx : Headed x h rest) (hy : y.queue = [h'])
    (htag : h'.tag = h.tag) (hsel : h'.selection = h.selection) (hr : h'.resetting = true) (hout : y.out = x.out) :
    EndsOnce x y := by
  refine ⟨[], by rw [hout, List.append_nil], ?_, fun tag htag => absurd rfl htag⟩
  rw [hq, hy, resetting_cons hy]
  intro l hl
  rcases List.mem_cons.1 hl with rfl | hl
  · exact Or.inl ⟨rfl, h', List.mem_singleton.2 rfl, htag, hsel⟩
  · refine Or.inr (Or.inr (Or.inl ⟨rfl, hr, fun l' hl' => ?_⟩))
    rw [List.mem_singleton.1 hl', htag]
    exact (hx.tags l hl).symm

end Ends

end Sys2Proof.LookupLink

/-! PROOFS. What each message, timer and setting makes of a port, and that it keeps the law of the port. -/

namespace Sys2Proof.LookupLink

open Sys2Proof Sys2Proof.Machine Sys2Proof.Safety Sys2Proof.ProfileTable Sys2Proof.SurfaceServing

/-! ### Events that leave the ports alone, or move one of them -/

/-- From s to t ports and datapath stay, and so does whether the engine is STARTING. -/
structure SameServing (s t : State) : Prop where
  ports : t.ports = s.ports
  datapath : t.datapath = s.datapath
  starting : isStarting t = isStarting s

theorem SameServing.refl (s : State) : SameServing s s := ⟨rfl, rfl, rfl⟩

theorem SameServing.trans {s t u : State} (h : SameServing s t) (h' : SameServing t u) : SameServing s u :=
  ⟨h'.ports.trans h.ports, h'.datapath.trans h.datapath, h'.starting.trans h.starting⟩

theorem SameServing.releaseRefs (s : State) (sel : Selection) : SameServing s (s.releaseRefs sel) := by
  rw [releaseRefs_frame]
  exact ⟨rfl, rfl, rfl⟩

theorem SameServing.takeRefs (s : State) (sel : Selection) : SameServing s (s.takeRefs sel) := by
  rw [takeRefs_frame]
  exact ⟨rfl, rfl, rfl⟩

theorem SameServing.releaseAll (l : List Lookup) (s : State) :
    SameServing s (l.foldl (fun s l => s.releaseRefs l.selection) s) := by
  induction l generalizing s with
  | nil => exact refl s
  | cons a l ih => exact (releaseRefs s a.selection).trans (ih _)

/-- An event takes a port that keeps its law from x to y: the law is kept, the granted row stays, and lookups that leave
have their END. -/
structure PortMove (x y : Port) : Prop where
  active : y.active = x.active
  law : PortOk y
  grant : headGrant y = headGrant x
  ends : EndsOnce x y

/-- From s to t the ports other than p stay, and so do the datapath and whether the engine is STARTING. -/
structure OthersKept (s t : State) (p : Stream) : Prop where
  others : ∀ q : Stream, q ≠ p → t.ports[q] = s.ports[q]
  datapath : t.datapath = s.datapath
  starting : isStarting t = isStarting s

theorem SameServing.othersKept {s t : State} (h : SameServing s t) (p : Stream) : OthersKept s t p :=
  ⟨fun _ _ => by rw [h.ports], h.datapath, h.starting⟩

theorem OthersKept.trans {s t u : State} {p : Stream} (h : OthersKept s t p) (h' : OthersKept t u p) :
    OthersKept s u p :=
  ⟨fun q hq => (h'.others q hq).trans (h.others q hq), h'.datapath.trans h.datapath, h'.starting.trans h.starting⟩

theorem OthersKept.withPort (s : State) (p : Stream) (x : Port) : OthersKept s (withPort s p x) p :=
  ⟨fun q hq => setPort_get_other s p q x hq, rfl, rfl⟩

/-- From s to t port p moves, and nothing else of serving changes. -/
structure MovesPort (s t : State) (p : Stream) : Prop extends OthersKept s t p where
  move : PortMove s.ports[p] t.ports[p]

theorem MovesPort.of_withPort {s r : State} {p : Stream} {y : Port} (h : OthersKept s r p)
    (hmove : PortMove s.ports[p] y) : MovesPort s (Safety.withPort r p y) p where
  toOthersKept := h.trans (OthersKept.withPort r p y)
  move := by
    rw [withPort_get_same]
    exact hmove

/-! ### A port that makes messages, or whose queue stays -/

section Moves

variable {x : Port} {h w : Lookup} {rest : List Lookup}

theorem PortMove.refl (hx : PortOk x) : PortMove x x := ⟨rfl, hx, rfl, endsOnce_refl x⟩

/-- What the law goes by stays, and messages are made that end nothing. -/
theorem PortMove.of_same {y : Port} {ms : List OutMessage} (hx : PortOk x) (hq : y.queue = x.queue)
    (hc : y.credits = x.credits) (ht : y.timer = x.timer) (hh : y.held = x.held) (ha : y.active = x.active)
    (hout : y.out = x.out ++ ms) (hms : Quiet ms) : PortMove x y :=
  ⟨ha, portOk_congr hx hq hc ht hh ha, headGrant_congr hq, endsOnce_of_same_queue hout hms hq⟩

theorem PortMove.send (hx : PortOk x) {ms : List OutMessage} (hms : Quiet ms) :
    PortMove x { x with out := x.out ++ ms } := of_same hx rfl rfl rfl rfl rfl rfl hms

/-- Credits are added, up to 4, and the timer stops (R127). -/
theorem PortMove.credit (hx : PortOk x) (hr : x.resetting = false) (ha : x.active = true) (n : Nat)
    {ms : List OutMessage} (hms : Quiet ms) :
    PortMove x { x with credits := min (x.credits + n) 4, timer := .stopped, out := x.out ++ ms } := by
  refine ⟨rfl, ?_, headGrant_congr rfl, endsOnce_of_same_queue rfl hms rfl⟩
  have hfour : min (x.credits + n) 4 ≤ 4 := Nat.min_le_right _ _
  cases hq : x.queue with
  | nil =>
    obtain ⟨-, -, hheld, -⟩ := (portOk_vacant hq).1 hx
    exact (portOk_vacant rfl).2 ⟨hfour, rfl, hheld, fun hoff => absurd ha (ne_true_of_eq_false hoff)⟩
  | cons h rest =>
    have hk := (portOk_headed hq).1 hx
    rw [resetting_cons hq] at hr
    refine (portOk_headed rfl).2 { hk with
      credits := hfour
      timer := nofun
      row := fun hg hn => ?_
      reset := fun hreset => absurd hreset (ne_true_of_eq_false hr) }
    exact Nat.le_min.2 ⟨(hk.row hg hn).trans (Nat.le_add_right _ _), by decide⟩

/-- A message is held while a reset waits for its granted row (R133). -/
theorem PortMove.hold (hx : PortOk x) (hr : x.resetting = true) (hroom : x.held.length < 8) (m : LinkMessage) :
    PortMove x { x with held := x.held ++ [m] } := by
  refine ⟨rfl, ?_, headGrant_congr rfl, endsOnce_of_same_queue (List.append_nil _).symm quiet_nil rfl⟩
  cases hq : x.queue with
  | nil =>
    rw [resetting_nil hq] at hr
    cases hr
  | cons h rest =>
    have hk := (portOk_headed hq).1 hx
    rw [resetting_cons hq] at hr
    refine (portOk_headed rfl).2 { hk with held := ?_, holding := fun _ => hr }
    rw [List.length_append]
    exact hroom

/-! ### A head that ends (section 7.9) -/

/-- The timer of a port with this queue, once its head has ended. -/
def timerBehind (credits : Nat) (limit : Byte) : List Lookup → Timer
  | [] => .stopped
  | w :: _ => timerForHead credits limit w

theorem timerForHead_running {credits : Nat} {limit : Byte} {e l : Nat}
    (hr : timerForHead credits limit w = .running e l) :
    l ≠ 0 ∧ credits = 0 ∧ w.rowsOwed ≠ [] ∧ w.granted = none ∧ w.cancelling = false := by
  unfold timerForHead at hr
  split at hr
  · next hcond =>
    obtain ⟨howed, hgranted, hcancel, hcredits, hlimit⟩ := hcond
    cases hr
    exact ⟨hlimit, hcredits, howed, hgranted, hcancel⟩
  · cases hr

theorem headOk_of_waiting (hw : WaitingOk w) : HeadOk w := by
  obtain ⟨-, hcancel, hreset, -, howed⟩ := hw
  refine ⟨fun _ => ⟨howed, hcancel, hreset⟩, ?_, ?_⟩
  · rw [hcancel]
    exact nofun
  · rw [hreset]
    exact nofun

/-- A port whose one lookup waits for its first grant. -/
theorem headed_of_waiting {y : Port} (hw : WaitingOk w) (hc : y.credits ≤ 4) (hh : y.held = [])
    (ht : ∀ e l, y.timer = .running e l →
      l ≠ 0 ∧ y.credits = 0 ∧ w.rowsOwed ≠ [] ∧ w.granted = none ∧ w.cancelling = false)
    (ha : y.active = true) : Headed y w [] := by
  have hhead := headOk_of_waiting hw
  obtain ⟨hgranted, -, hreset, -, -⟩ := hw
  refine ⟨Nat.zero_le 1, nofun, nofun, hc, ht, hhead, ?_, ?_, ?_, fun hne => absurd hh hne, ha⟩
  · rw [hgranted]
    exact nofun
  · rw [hreset]
    exact nofun
  · rw [hh]
    exact Nat.zero_le 8

/-- The law of the port that a head leaves behind, its credits as they then are. -/
theorem portOk_behind (hx : Headed x h rest) (hr : h.resetting = false) {y : Port} (hq : y.queue = rest)
    (hc : y.credits ≤ 4) (ht : y.timer = timerBehind y.credits y.stallLimit rest) (hh : y.held = x.held)
    (ha : y.active = x.active) : PortOk y ∧ headGrant y = none := by
  have hheld : y.held = [] := hh.trans (hx.held_nil hr)
  have hactive : y.active = true := ha.trans hx.active
  match rest, hx.room with
  | [], _ =>
    exact ⟨(portOk_vacant hq).2 ⟨hc, ht, hheld, fun hoff => absurd hactive (ne_true_of_eq_false hoff)⟩,
      headGrant_nil hq⟩
  | [w], _ =>
    have hw := hx.waiting w List.mem_cons_self
    refine ⟨(portOk_headed hq).2 (headed_of_waiting hw hc hheld (fun e l hrun => ?_) hactive), ?_⟩
    · exact timerForHead_running (ht.symm.trans hrun)
    · exact (headGrant_eq_none hq).2 hw.1

/-- Messages of an ended head and of what follows it: its END, and headers. -/
theorem filterMap_end {m : OutMessage} {tag : Byte} (hm : endTag m = some tag) {hs : List OutMessage} (hhs : Quiet hs) :
    (m :: hs).filterMap endTag = [tag] ∧ OutMessage.notice .resetDone ∉ m :: hs := by
  refine ⟨?_, fun hmem => ?_⟩
  · rw [List.filterMap_cons_some hm, List.filterMap_eq_nil_iff.2 fun m' hm' => (hhs m' hm').1]
  · rcases List.mem_cons.1 hmem with rfl | hmem
    · cases hm
    · exact (hhs _ hmem).2 rfl

/-- A head with no granted row ends (R129, R130, R134). -/
theorem PortMove.endHead (hx : PortOk x) (hq : x.queue = h :: rest) (hg : h.granted = none) {m : OutMessage}
    (hm : endTag m = some h.tag) {hs : List OutMessage} (hhs : Quiet hs) :
    PortMove x { x with
      queue := rest, timer := timerBehind x.credits x.stallLimit rest, out := x.out ++ (m :: hs) } := by
  have hk := (portOk_headed hq).1 hx
  obtain ⟨hlaw, hnone⟩ := portOk_behind hk (hk.not_resetting hg)
    (y := { x with queue := rest, timer := timerBehind x.credits x.stallLimit rest, out := x.out ++ (m :: hs) })
    rfl hk.credits rfl rfl rfl
  obtain ⟨hends, hdone⟩ := filterMap_end hm hhs
  exact ⟨rfl, hlaw, hnone.trans ((headGrant_eq_none hq).2 hg).symm, endsOnce_head hk hq rfl rfl hends hdone⟩

/-! ### A waiting lookup that ends; a head that is cancelled or reset (R130, R131, R133, R134) -/

theorem Headed.alone (hx : Headed x h rest) : Headed x h [] :=
  { hx with
    room := Nat.zero_le 1, tags := nofun, waiting := nofun
    reset := fun hr => ⟨rfl, (hx.reset hr).2⟩ }

/-- The head of a port, its tag and its granted row kept, with other rows owed or flags. -/
theorem Headed.with_head (hx : Headed x h rest) {h' : Lookup} (htag : h'.tag = h.tag) (hg : h'.granted = h.granted)
    (hgranted : h.granted ≠ none) (hreset : h'.resetting = h.resetting) (howed : h'.rowsOwed = []) :
    Headed x h' rest where
  room := hx.room
  tags := htag ▸ hx.tags
  waiting := hx.waiting
  credits := hx.credits
  timer := fun e l ht => by
    rw [hx.timer_stopped hgranted] at ht
    cases ht
  head := ⟨fun hnone => absurd (hg.symm.trans hnone) hgranted, fun _ => howed, fun _ => howed⟩
  row := by
    rw [hg, hreset]
    exact hx.row
  reset := by
    rw [hreset]
    exact hx.reset
  held := hx.held
  holding := by
    rw [hreset]
    exact hx.holding
  active := hx.active

/-- The law does not go by the queue that a port's record holds apart from the head and the rest named. -/
theorem Headed.congr (hx : Headed x h rest) {y : Port} (hc : y.credits = x.credits) (ht : y.timer = x.timer)
    (hh : y.held = x.held) (ha : y.active = x.active) : Headed y h rest where
  room := hx.room
  tags := hx.tags
  waiting := hx.waiting
  credits := hc ▸ hx.credits
  timer := by
    rw [ht, hc]
    exact hx.timer
  head := hx.head
  row := hc ▸ hx.row
  reset := hc ▸ hx.reset
  held := hh ▸ hx.held
  holding := hh ▸ hx.holding
  active := ha.trans hx.active

/-- The head of a port with a granted row, set cancelling (R131). -/
def cancellingHead (h : Lookup) : Lookup := { h with rowsOwed := [], cancelling := true }

/-- The head of a port with a granted row, set resetting (R133). -/
def resettingHead (h : Lookup) : Lookup := { h with rowsOwed := [], resetting := true }

/-- A head with a granted row is set cancelling, those behind it as they were. -/
theorem PortMove.cancelHead (hx : PortOk x) (hq : x.queue = h :: rest) (hg : h.granted ≠ none) :
    PortMove x { x with queue := cancellingHead h :: rest } := by
  have hk := (portOk_headed hq).1 hx
  refine ⟨rfl, (portOk_headed rfl).2 ?_, ?_, endsOnce_of_kept (List.append_nil _).symm quiet_nil ?_⟩
  · exact (hk.with_head (h' := cancellingHead h) rfl rfl hg rfl rfl).congr rfl rfl rfl rfl
  · rw [headGrant_cons hq]
    rfl
  · rw [hq]
    intro l hl
    rcases List.mem_cons.1 hl with rfl | hl
    · exact ⟨cancellingHead l, List.mem_cons_self, rfl, rfl⟩
    · exact ⟨l, List.mem_cons_of_mem _ hl, rfl, rfl⟩

/-- The waiting lookup ends with its END; the head stays. -/
theorem PortMove.endWaiting (hx : PortOk x) (hq : x.queue = [h, w]) {m : OutMessage} (hm : endTag m = some w.tag) :
    PortMove x { x with queue := [h], out := x.out ++ [m] } := by
  have hk := (portOk_headed hq).1 hx
  obtain ⟨hends, hdone⟩ := filterMap_end hm quiet_nil
  refine ⟨rfl, (portOk_headed rfl).2 (hk.alone.congr rfl rfl rfl rfl), ?_,
    endsOnce_waiting hk hq rfl rfl rfl rfl hends hdone⟩
  rw [headGrant_cons hq]
  rfl

/-- The waiting lookup ends with its END, and the head, with a granted row, is set cancelling (R134). -/
theorem PortMove.endWaiting_cancelHead (hx : PortOk x) (hq : x.queue = [h, w]) (hg : h.granted ≠ none) {m : OutMessage}
    (hm : endTag m = some w.tag) : PortMove x { x with queue := [cancellingHead h], out := x.out ++ [m] } := by
  have hk := (portOk_headed hq).1 hx
  obtain ⟨hends, hdone⟩ := filterMap_end hm quiet_nil
  refine ⟨rfl, (portOk_headed rfl).2 ?_, ?_,
    endsOnce_waiting (h' := cancellingHead h) hk hq rfl rfl rfl rfl hends hdone⟩
  · exact (hk.alone.with_head (h' := cancellingHead h) rfl rfl hg rfl rfl).congr rfl rfl rfl rfl
  · rw [headGrant_cons hq]
    rfl

/-- The waiting lookup and then the head, with no granted row, end with their ENDs (R134). -/
theorem PortMove.endBoth (hx : PortOk x) (hq : x.queue = [h, w]) (hg : h.granted = none) {m m' : OutMessage}
    (hm : endTag m = some w.tag) (hm' : endTag m' = some h.tag) :
    PortMove x { x with queue := [], timer := .stopped, out := x.out ++ [m, m'] } := by
  have hk := (portOk_headed hq).1 hx
  obtain ⟨hlaw, hnone⟩ := portOk_behind hk.alone (hk.not_resetting hg)
    (y := { x with queue := [], timer := .stopped, out := x.out ++ [m, m'] }) rfl hk.credits rfl rfl rfl
  obtain ⟨hends, hdone⟩ := filterMap_end hm' quiet_nil
  refine ⟨rfl, hlaw, hnone.trans ((headGrant_eq_none hq).2 hg).symm, endsOnce_both hk hq rfl rfl ?_ ?_⟩
  · rw [List.filterMap_cons_some hm, hends]
  · refine fun hmem => (List.mem_cons.1 hmem).elim (fun heq => ?_) hdone
    rw [← heq] at hm
    cases hm

/-- A reset of a port with no granted row: its queue is emptied without an END, and RESET_DONE is made (R132, R133). -/
theorem PortMove.resetDone (hgrant : headGrant x = none) (hheld : x.held = []) :
    PortMove x { x with queue := [], credits := 0, timer := .stopped, out := x.out ++ [.notice .resetDone] } :=
  ⟨rfl, (portOk_vacant rfl).2 ⟨Nat.zero_le 4, rfl, hheld, fun _ => rfl⟩, (headGrant_nil rfl).trans hgrant.symm,
    endsOnce_of_resetDone rfl⟩

/-- A reset of a port whose head has a granted row: the head is left alone, resetting (R133). -/
theorem PortMove.resetHead (hx : PortOk x) (hq : x.queue = h :: rest) (hg : h.granted ≠ none) :
    PortMove x { x with queue := [resettingHead h], credits := 0, timer := .stopped } := by
  have hk := (portOk_headed hq).1 hx
  refine ⟨rfl, (portOk_headed rfl).2 ?_, ?_, endsOnce_resetting hq hk rfl rfl rfl rfl rfl⟩
  · exact ⟨Nat.zero_le 1, nofun, nofun, Nat.zero_le 4, nofun,
      ⟨fun hnone => absurd hnone hg, fun _ => rfl, fun _ => rfl⟩, fun _ hr => (nomatch hr), fun _ => ⟨rfl, rfl⟩,
      hk.held, fun _ => rfl, hk.active⟩
  · rw [headGrant_cons hq]
    rfl

/-! ### A lookup accepted (R122, R124, R126) -/

/-- A lookup joins the queue behind a head. -/
theorem PortMove.joinBehind (hx : PortOk x) (hq : x.queue = [h]) (hr : h.resetting = false) (hw : WaitingOk w)
    (htag : w.tag ≠ h.tag) : PortMove x { x with queue := [h, w] } := by
  have hk := (portOk_headed hq).1 hx
  refine ⟨rfl, (portOk_headed rfl).2 ?_, ?_, endsOnce_of_kept (List.append_nil _).symm quiet_nil ?_⟩
  · exact { hk with
      room := le_refl 1
      tags := fun l hl => by rw [List.mem_singleton.1 hl]; exact htag
      waiting := fun l hl => by rw [List.mem_singleton.1 hl]; exact hw
      reset := fun hreset => absurd hreset (ne_true_of_eq_false hr) }
  · rw [headGrant_cons hq]
    rfl
  · rw [hq]
    exact fun l hl => ⟨l, List.mem_cons.2 (Or.inl (List.mem_singleton.1 hl)), rfl, rfl⟩

/-- A lookup becomes the head of an empty queue, its header is made, and the timer is judged. -/
theorem PortMove.joinEmpty (hx : PortOk x) (hq : x.queue = []) (ha : x.active = true) (hw : WaitingOk w)
    {ms : List OutMessage} (hms : Quiet ms) :
    PortMove x { x with
      queue := [w]
      out := x.out ++ ms
      timer := if x.credits = 0 ∧ x.stallLimit.toNat ≠ 0 then .running 0 x.stallLimit.toNat else x.timer } := by
  obtain ⟨hcredits, htimer, hheld, -⟩ := (portOk_vacant hq).1 hx
  refine ⟨rfl, (portOk_headed rfl).2 (headed_of_waiting hw hcredits hheld ?_ ha), ?_, endsOnce_of_kept rfl hms ?_⟩
  · intro e l hrun
    dsimp only at hrun
    rw [htimer] at hrun
    obtain ⟨hgranted, hcancel, -, -, howed⟩ := hw
    split at hrun
    · next hcond =>
      obtain ⟨hzero, hlimit⟩ := hcond
      cases hrun
      exact ⟨hlimit, hzero, howed, hgranted, hcancel⟩
    · cases hrun
  · exact ((headGrant_eq_none rfl).2 hw.1).trans (headGrant_nil hq).symm
  · rw [hq]
    exact nofun

end Moves

/-! ### Messages (R118 to R133) -/

namespace MovesPort

variable {s : State} {p : Stream}

theorem refl (hx : PortOk s.ports[p]) : MovesPort s s p :=
  ⟨(SameServing.refl s).othersKept p, PortMove.refl hx⟩

theorem send (hx : PortOk s.ports[p]) {m : OutMessage} (hm : endTag m = none) (hne : m ≠ .notice .resetDone) :
    MovesPort s (withMessages s p [m]) p :=
  of_withPort ((SameServing.refl s).othersKept p) (PortMove.send hx (quiet_singleton hm hne))

theorem quiet_header (hd : Header) : Quiet [.header hd] := quiet_singleton rfl nofun

/-- What a head's end makes of its port. -/
theorem headEnded_eq (s : State) (p : Stream) (h : Lookup) (rest : List Lookup) (m : OutMessage) :
    ∃ hs, Quiet hs ∧ headEnded s p h rest [m] = withPort (s.releaseRefs h.selection) p { s.ports[p] with
      queue := rest
      timer := timerBehind s.ports[p].credits s.ports[p].stallLimit rest
      out := s.ports[p].out ++ (m :: hs) } := by
  cases rest with
  | nil => exact ⟨[], quiet_nil, rfl⟩
  | cons w ws =>
    refine ⟨_, quiet_header ((s.releaseRefs h.selection).headerOf p w), ?_⟩
    unfold headEnded
    dsimp only
    rw [List.append_assoc]
    rfl

theorem headEnds {h : Lookup} {rest : List Lookup} (hx : PortOk s.ports[p]) (hq : s.ports[p].queue = h :: rest)
    (hg : h.granted = none) {m : OutMessage} (hm : endTag m = some h.tag) :
    MovesPort s (headEnded s p h rest [m]) p := by
  obtain ⟨hs, hquiet, heq⟩ := headEnded_eq s p h rest m
  rw [heq]
  exact of_withPort ((SameServing.releaseRefs s _).othersKept p) (PortMove.endHead hx hq hg hm hquiet)

theorem waitingOk_accepted {c : ViewConfig} {tag : Byte} {key : Word} {first count : Nat}
    (hrows : rowsWithin c.geometry.rows first count = true) :
    WaitingOk (acceptedLookup s p c tag key first count) := by
  refine ⟨rfl, rfl, rfl, rfl, ?_⟩
  simp only [rowsWithin, Bool.and_eq_true, Bool.or_eq_true, decide_eq_true_eq] at hrows
  obtain ⟨hfirst, -⟩ := hrows
  show rowRun c.geometry.rows first count ≠ []
  unfold rowRun
  refine mt List.range'_eq_nil_iff.1 ?_
  split <;> omega

theorem acceptLookup (hx : PortOk s.ports[p]) (hr : s.ports[p].resetting = false) (ha : s.ports[p].active = true)
    {c : ViewConfig} {tag : Byte} {key : Word} {first count : Nat} (ht : ∀ l ∈ s.ports[p].queue, l.tag ≠ tag)
    (hroom : s.ports[p].queue.length < 2) (hrows : rowsWithin c.geometry.rows first count = true) :
    MovesPort s (s.acceptLookup p c tag key first count) p := by
  have hw : WaitingOk (acceptedLookup s p c tag key first count) := waitingOk_accepted hrows
  match hq : s.ports[p].queue with
  | [] =>
    rw [acceptLookup_head hq, judgeTimer_head rfl hw.2.2.2.2 rfl rfl]
    exact of_withPort ((SameServing.takeRefs s _).othersKept p) (PortMove.joinEmpty hx hq ha hw (quiet_header _))
  | [h] =>
    rw [acceptLookup_waiting (by rw [hq]; exact List.cons_ne_nil _ _), hq]
    rw [resetting_cons hq] at hr
    rw [hq] at ht
    exact of_withPort ((SameServing.takeRefs s _).othersKept p)
      (PortMove.joinBehind hx hq hr hw (ht h List.mem_cons_self).symm)
  | _ :: _ :: _ =>
    rw [hq] at hroom
    exact absurd hroom (by simp)

theorem takeLookup (hx : PortOk s.ports[p]) (hr : s.ports[p].resetting = false) (tag : Byte) (key : Word)
    (first count : Nat) : MovesPort s (s.takeLookup p tag key first count) p := by
  unfold State.takeLookup
  dsimp only
  split
  · exact send hx rfl nofun
  · next ha =>
    split
    · exact send hx rfl nofun
    · split
      · exact send hx rfl nofun
      · next ht =>
        split
        · exact send hx rfl nofun
        · next hroom =>
          split
          · exact send hx rfl nofun
          · split
            · next hrows =>
              refine acceptLookup hx hr (by simpa using ha) ?_ (Nat.not_le.1 hroom) hrows
              simpa using ht
            · exact send hx rfl nofun

theorem takeCredit (hx : PortOk s.ports[p]) (hr : s.ports[p].resetting = false) (ha : s.ports[p].active = true)
    (n : Nat) : MovesPort s (s.takeCredit p n) p := by
  rw [takeCredit_eq]
  refine of_withPort ((SameServing.refl s).othersKept p) (PortMove.credit hx hr ha n ?_)
  split
  · exact quiet_singleton rfl nofun
  · exact quiet_nil

theorem takeCancel (hx : PortOk s.ports[p]) (tag : Byte) : MovesPort s (s.takeCancel p tag) p := by
  unfold State.takeCancel
  split
  · exact send hx rfl nofun
  · next h rest hq =>
    split
    · next ht =>
      split
      · next hg =>
        rw [endHead_eq _ hq]
        exact headEnds hx hq hg (congrArg some ht.symm)
      · next r hg =>
        rw [modPort_eq_withPort, cancelHead_eq hq]
        refine of_withPort ((SameServing.refl s).othersKept p) (PortMove.cancelHead hx hq ?_)
        rw [hg]
        exact Option.some_ne_none r
    · split
      · exact send hx rfl nofun
      · next w ws =>
        split
        · next hw =>
          have hroom := ((portOk_headed hq).1 hx).room
          have hws : ws = [] := List.length_eq_zero_iff.1 (Nat.le_zero.1 (Nat.le_of_succ_le_succ hroom))
          subst hws
          rw [endWaiting_eq _ hq]
          exact of_withPort ((SameServing.releaseRefs s _).othersKept p)
            (PortMove.endWaiting hx hq (congrArg some hw.symm))
        · exact send hx rfl nofun

theorem takeReset (hx : PortOk s.ports[p]) (hr : s.ports[p].resetting = false) : MovesPort s (s.takeReset p) p := by
  match hq : s.ports[p].queue with
  | [] =>
    obtain ⟨-, -, hheld, -⟩ := (portOk_vacant hq).1 hx
    rw [takeReset_empty hq]
    have hmove := PortMove.resetDone (headGrant_nil hq) hheld
    rw [← hq] at hmove
    exact of_withPort ((SameServing.refl s).othersKept p) hmove
  | h :: rest =>
    have hk := (portOk_headed hq).1 hx
    rw [resetting_cons hq] at hr
    by_cases hg : h.granted = none
    · rw [takeReset_none_granted hq hg]
      exact of_withPort ((SameServing.releaseAll _ s).othersKept p)
        (PortMove.resetDone ((headGrant_eq_none hq).2 hg) (hk.held_nil hr))
    · have hmove := PortMove.resetHead hx hq hg
      match rest, hk.room with
      | [], _ =>
        rw [takeReset_granted_alone hq hg]
        exact of_withPort ((SameServing.refl s).othersKept p) hmove
      | [w], _ =>
        rw [takeReset_granted_waiting hq hg]
        exact of_withPort ((SameServing.releaseRefs s _).othersKept p) hmove

/-- A message taken by a port on which no reset waits. -/
theorem takeMessage (hx : PortOk s.ports[p]) (hr : s.ports[p].resetting = false) (m : LinkMessage) :
    MovesPort s (s.takeMessage p m) p := by
  cases ha : s.ports[p].active with
  | false =>
    cases m with
    | lookup tag key first count => exact takeLookup hx hr tag key _ _
    | credit n =>
      rw [takeMessage_offline (m := .credit n) ha nofun]
      exact refl hx
    | cancel tag =>
      rw [takeMessage_offline (m := .cancel tag) ha nofun]
      exact refl hx
    | reset =>
      rw [takeMessage_offline (m := .reset) ha nofun]
      exact refl hx
  | true =>
    cases m with
    | lookup tag key first count => exact takeLookup hx hr tag key _ _
    | credit n =>
      rw [takeMessage_credit ha]
      exact takeCredit hx hr ha _
    | cancel tag =>
      rw [takeMessage_cancel ha]
      exact takeCancel hx tag
    | reset =>
      rw [takeMessage_reset ha]
      exact takeReset hx hr

theorem arrive (hx : PortOk s.ports[p]) (m : LinkMessage) : MovesPort s (s.arrive p m) p := by
  cases hr : s.ports[p].resetting with
  | true =>
    by_cases hroom : s.ports[p].held.length < 8
    · rw [arrive_held hr hroom]
      exact of_withPort ((SameServing.refl s).othersKept p) (PortMove.hold hx hr hroom m)
    · rw [arrive_ninth hr (Nat.not_lt.1 hroom)]
      exact send hx rfl nofun
  | false =>
    unfold State.arrive
    rw [if_neg (ne_true_of_eq_false hr)]
    exact takeMessage hx hr m

/-! ### Framing (R114, R116, R118) -/

theorem framed (hx : PortOk s.ports[p]) (f : Framing) : MovesPort s (withFraming s p f) p :=
  of_withPort ((SameServing.refl s).othersKept p)
    (PortMove.of_same hx rfl rfl rfl rfl rfl (List.append_nil _).symm quiet_nil)

theorem discard (hx : PortOk s.ports[p]) : MovesPort s (s.discard p) p := by
  rw [discard_eq_dropped]
  refine of_withPort ((SameServing.refl s).othersKept p) (PortMove.of_same hx rfl rfl rfl rfl rfl rfl ?_)
  split
  · exact quiet_singleton rfl nofun
  · exact quiet_nil

theorem judgeMessage (hx : PortOk s.ports[p]) (bytes : List Byte) : MovesPort s (s.judgeMessage p bytes) p := by
  unfold State.judgeMessage
  split
  · split
    · exact arrive hx _
    · exact discard hx
  · exact discard hx

/-- What an event does to a port goes by the port's queue, messages made and ACTIVE flag. -/
theorem congr_left {u t : State} (h : OthersKept s u p) (ha : u.ports[p].active = s.ports[p].active)
    (hq : u.ports[p].queue = s.ports[p].queue) (hout : u.ports[p].out = s.ports[p].out) (hmove : MovesPort u t p) :
    MovesPort s t p where
  toOthersKept := h.trans hmove.toOthersKept
  move := by
    obtain ⟨hactive, hlaw, hgrant, hends⟩ := hmove.move
    exact ⟨hactive.trans ha, hlaw, hgrant.trans (headGrant_congr hq), endsOnce_congr hq hout hends⟩

theorem of_framed {t : State} {f : Framing} (h : MovesPort (withFraming s p f) t p) : MovesPort s t p :=
  congr_left (u := withFraming s p f) (OthersKept.withPort s p _) (by rw [withFraming_port]) (by rw [withFraming_port])
    (by rw [withFraming_port]) h

theorem receiveByte (hx : PortOk s.ports[p]) (b : Byte) : MovesPort s (s.receiveByte p b) p := by
  unfold State.receiveByte
  split
  · split
    · exact framed hx _
    · exact refl hx
  · split
    · exact refl hx
    · split
      · exact discard hx
      · exact framed hx _
  · dsimp only
    split
    · exact discard hx
    · split
      · exact framed hx _
      · exact of_framed (judgeMessage (s := withFraming s p .waiting) (framed hx .waiting).move.law _)

/-! ### Timers and the enable flag (R129, R134) -/

theorem expire (hx : PortOk s.ports[p]) {e limit : Nat} (ht : s.ports[p].timer = .running e limit) :
    MovesPort s (s.expire p) p := by
  cases hq : s.ports[p].queue with
  | nil =>
    obtain ⟨-, hstopped, -, -⟩ := (portOk_vacant hq).1 hx
    rw [hstopped] at ht
    cases ht
  | cons h rest =>
    obtain ⟨-, -, -, hg, -⟩ := ((portOk_headed hq).1 hx).timer e limit ht
    rw [expire_eq hq]
    exact headEnds hx hq hg rfl

theorem disablePort (hx : PortOk s.ports[p]) : MovesPort s (s.disablePort p) p := by
  match hq : s.ports[p].queue with
  | [] =>
    rw [disablePort_nil hq]
    exact refl hx
  | [h] =>
    by_cases hg : h.granted = none
    · rw [disablePort_alone hq hg]
      exact headEnds hx hq hg rfl
    · cases hr : h.resetting with
      | true =>
        rw [disablePort_resetting hq hr hg]
        exact refl hx
      | false =>
        rw [disablePort_granted hq hr hg]
        exact of_withPort ((SameServing.refl s).othersKept p) (PortMove.cancelHead hx hq hg)
  | [h, w] =>
    have hwaiting := (SameServing.releaseRefs s w.selection).othersKept p
    by_cases hg : h.granted = none
    · have hended : ∀ ms, OthersKept s ((waitingEnded s p h w ms).releaseRefs h.selection) p := fun ms =>
        (hwaiting.trans (OthersKept.withPort _ p _)).trans ((SameServing.releaseRefs _ _).othersKept p)
      have hmove := PortMove.endBoth (m := .ended w.tag .cancelled) (m' := .ended h.tag .cancelled) hx hq hg rfl rfl
      rw [disablePort_waiting hq hg]
      refine of_withPort (hended _) ?_
      rw [waitingEnded, withPort_get_same]
      simpa using hmove
    · cases hr : h.resetting with
      | true =>
        obtain ⟨hnil, -⟩ := ((portOk_headed hq).1 hx).reset hr
        cases hnil
      | false =>
        rw [disablePort_granted_waiting hq hr hg]
        unfold waitingEnded
        dsimp only
        rw [withPort_get_same, withPort_withPort]
        exact of_withPort hwaiting (PortMove.endWaiting_cancelHead hx hq hg rfl)
  | h :: w :: l :: rest =>
    have hroom := ((portOk_headed hq).1 hx).room
    exact absurd hroom (by simp)

end MovesPort

end Sys2Proof.LookupLink

/-! PROOFS. The law of serving and the ENDs of one event, for what moves a port, grants a row or hands one back. -/

namespace Sys2Proof.LookupLink

open Sys2Proof Sys2Proof.Machine Sys2Proof.Safety Sys2Proof.ProfileTable Sys2Proof.SurfaceServing

/-! ### Events that keep the law of serving (R117 to R136), each lookup with its one END (R123) -/

/-- The event from s to t keeps the law of serving, and each lookup that it ends has its one END. -/
structure KeepsServing (s t : State) : Prop where
  law : ServingLaw s → ServingLaw t
  ends : ServingLaw s → ∀ q : Stream, EndsOnce s.ports[q] t.ports[q]

theorem portOk_of_servingLaw {s : State} (h : ServingLaw s) (p : Stream) : PortOk s.ports[p] := (h.1 p).1

theorem servingLaw_congr {s t : State} (h : SameServing s t) (hs : ServingLaw s) : ServingLaw t := by
  rw [servingLaw_iff] at hs ⊢
  rw [h.ports, h.datapath, h.starting]
  exact hs

namespace KeepsServing

variable {s t u : State} {p : Stream}

theorem of_same (h : SameServing s t) : KeepsServing s t :=
  ⟨servingLaw_congr h, fun _ q => by rw [h.ports]; exact endsOnce_refl _⟩

theorem refl (s : State) : KeepsServing s s := of_same (SameServing.refl s)

/-- What an event keeps may be judged under the law of serving. -/
theorem of_law (h : ServingLaw s → KeepsServing s t) : KeepsServing s t :=
  ⟨fun hs => (h hs).law hs, fun hs => (h hs).ends hs⟩

theorem after_same (h : SameServing s u) (h' : KeepsServing u t) : KeepsServing s t := by
  refine ⟨fun hs => h'.law (servingLaw_congr h hs), fun hs q => ?_⟩
  have hends := h'.ends (servingLaw_congr h hs) q
  rwa [h.ports] at hends

theorem then_same (h : KeepsServing s t) (h' : SameServing t u) : KeepsServing s u :=
  ⟨fun hs => servingLaw_congr h' (h.law hs), fun hs q => by rw [h'.ports]; exact h.ends hs q⟩

/-- Every port moves, or stays. -/
theorem of_ports (h : ∀ q : Stream, PortOk s.ports[q] → PortMove s.ports[q] t.ports[q]) (hd : t.datapath = s.datapath)
    (hstart : isStarting t = isStarting s) : KeepsServing s t := by
  refine ⟨fun hs => ?_, fun hs q => (h q (portOk_of_servingLaw hs q)).ends⟩
  obtain ⟨hports, hrow⟩ := servingLaw_iff.1 hs
  refine servingLaw_iff.2 ⟨fun q => ?_, fun d => ?_⟩
  · obtain ⟨hok, hactive⟩ := hports q
    have hmove := h q hok
    exact ⟨hmove.law, by rw [hmove.active, hactive, hstart]⟩
  · rw [hd, hrow, (h d.port (hports d.port).1).grant]

/-- One port moves. -/
theorem of_moves (h : PortOk s.ports[p] → MovesPort s t p) : KeepsServing s t := by
  refine of_law fun hs => ?_
  have hmoves := h (portOk_of_servingLaw hs p)
  refine of_ports (fun q hok => ?_) hmoves.datapath hmoves.starting
  by_cases hq : q = p
  · subst hq
    exact hmoves.move
  · rw [hmoves.others q hq]
    exact PortMove.refl hok

/-- The row in production changes, and port p with it. -/
theorem of_production (hothers : ∀ q : Stream, q ≠ p → t.ports[q] = s.ports[q]) (hstart : isStarting t = isStarting s)
    (hactive : t.ports[p].active = s.ports[p].active)
    (hport : ServingLaw s → PortOk t.ports[p] ∧ EndsOnce s.ports[p] t.ports[p])
    (hrow : ServingLaw s → ∀ d, t.datapath = some d ↔
      if d.port = p then headGrant t.ports[p] = some (d.tag, d.row) else s.datapath = some d) : KeepsServing s t := by
  refine ⟨fun hs => ?_, fun hs q => ?_⟩
  · obtain ⟨hports, hold⟩ := servingLaw_iff.1 hs
    refine servingLaw_iff.2 ⟨fun q => ?_, fun d => ?_⟩
    · obtain ⟨hok, ha⟩ := hports q
      by_cases hq : q = p
      · subst hq
        exact ⟨(hport hs).1, by rw [hactive, ha, hstart]⟩
      · rw [hothers q hq, hstart]
        exact ⟨hok, ha⟩
    · rw [hrow hs]
      split
      · next hd =>
        subst hd
        exact Iff.rfl
      · next hd => rw [hold, hothers d.port hd]
  · by_cases hq : q = p
    · subst hq
      exact (hport hs).2
    · rw [hothers q hq]
      exact endsOnce_refl _

end KeepsServing

/-! ### A row granted (R125, R137) -/

theorem candidate_iff {x : Port} : x.candidate = true ↔ ∃ h rest, x.queue = h :: rest ∧ h.rowsOwed ≠ [] ∧
    h.granted = none ∧ h.cancelling = false ∧ 1 ≤ x.credits := by
  unfold Port.candidate
  cases x.queue with
  | nil => exact ⟨nofun, fun ⟨_, _, hq, _⟩ => nomatch hq⟩
  | cons h rest =>
    simp only [Bool.and_eq_true, decide_eq_true_eq, Bool.not_eq_true', List.cons.injEq]
    constructor
    · rintro ⟨⟨⟨howed, hg⟩, hc⟩, hcredit⟩
      exact ⟨h, rest, ⟨rfl, rfl⟩, howed, hg, hc, hcredit⟩
    · rintro ⟨_, _, ⟨rfl, rfl⟩, howed, hg, hc, hcredit⟩
      exact ⟨⟨⟨howed, hg⟩, hc⟩, hcredit⟩

/-- The head granted its lowest row owed. -/
def grantedRow (h : Lookup) (r : Nat) (rows : List Nat) : Lookup := { h with granted := some r, rowsOwed := rows }

/-- A grant gives a candidate's head its lowest row owed. -/
theorem exec_grant {s : State} {p : Stream} {h : Lookup} {rest : List Lookup} {r : Nat} {rows : List Nat}
    (hd : s.datapath = none) (hp : s.grantee = some p) (hq : s.ports[p].queue = h :: rest)
    (hr : h.rowsOwed = r :: rows) : execGrant s = .next { withPort s p { s.ports[p] with queue := grantedRow h r rows :: rest } with
      lastGranted := p, datapath := some { port := p, tag := h.tag, row := r } } := by
  unfold execGrant Port.nextRow
  simp only [hd, hp, hq, hr, List.head?_cons, Option.map_some, modPort_eq_withPort, Port.grantHead, List.tail_cons]
  rfl

theorem headed_grantedRow {x : Port} {h : Lookup} {rest : List Lookup} (hx : Headed x h rest) (hg : h.granted = none)
    (hc : h.cancelling = false) (hcredit : 1 ≤ x.credits) (r : Nat) (rows : List Nat) :
    Headed { x with queue := grantedRow h r rows :: rest } (grantedRow h r rows) rest where
  room := hx.room
  tags := hx.tags
  waiting := hx.waiting
  credits := hx.credits
  timer := fun e limit ht => by
    obtain ⟨-, hzero, -⟩ := hx.timer e limit ht
    exact absurd (hzero ▸ hcredit) (by decide)
  head := ⟨nofun, fun hcancel => absurd hcancel (ne_true_of_eq_false hc),
    fun hreset => absurd hreset (ne_true_of_eq_false (hx.not_resetting hg))⟩
  row := fun _ _ => hcredit
  reset := hx.reset
  held := hx.held
  holding := hx.holding
  active := hx.active

theorem KeepsServing.grant {s t : State} (h : execGrant s = .next t) : KeepsServing s t := by
  cases hd : s.datapath with
  | some d =>
    unfold execGrant at h
    rw [hd] at h
    cases h
    exact refl s
  | none =>
    cases hp : s.grantee with
    | none =>
      unfold execGrant at h
      rw [hd, hp] at h
      cases h
      exact refl s
    | some p =>
      have hcandidate := List.find?_some (p := fun p : Stream => s.ports[p].candidate) hp
      obtain ⟨l, rest, hq, howed, hg, hc, hcredit⟩ := candidate_iff.1 hcandidate
      obtain ⟨r, rows, hr⟩ := List.exists_cons_of_ne_nil howed
      rw [exec_grant hd hp hq hr] at h
      cases h
      have hport : (withPort s p { s.ports[p] with queue := grantedRow l r rows :: rest }).ports[p] =
          { s.ports[p] with queue := grantedRow l r rows :: rest } := withPort_get_same s p _
      refine of_production (p := p) (fun q hne => setPort_get_other s p q _ hne) rfl (by rw [hport]) (fun hs => ?_)
        (fun _ d => ?_)
      · have hk := (portOk_headed hq).1 (portOk_of_servingLaw hs p)
        rw [hport]
        refine ⟨(portOk_headed rfl).2 (headed_grantedRow hk hg hc hcredit r rows),
          endsOnce_of_kept (List.append_nil _).symm quiet_nil ?_⟩
        rw [hq]
        intro l' hl'
        rcases List.mem_cons.1 hl' with rfl | hl'
        · exact ⟨grantedRow l' r rows, List.mem_cons_self, rfl, rfl⟩
        · exact ⟨l', List.mem_cons_of_mem _ hl', rfl, rfl⟩
      · rw [hport]
        show some _ = some d ↔ if d.port = p then some (l.tag, r) = some (d.tag, d.row) else s.datapath = some d
        rw [hd]
        cases d
        split
        · next heq =>
          simp only at heq
          subst heq
          simp
        · next hne =>
          simp only at hne
          simp [Ne.symm hne]

/-! ### A row handed back (R125, R126, R131, R133, R142) -/

/-- A port from x to y, once its head's granted row has come back. -/
structure PortFreed (x y : Port) : Prop where
  active : y.active = x.active
  law : PortOk y
  grant : headGrant y = none
  ends : EndsOnce x y

/-- The row in production comes back to its port, and the datapath is free. -/
theorem KeepsServing.of_freed {s t : State} {d : Producing} (hd : s.datapath = some d)
    (hothers : OthersKept { s with datapath := none } t d.port) (h : PortFreed s.ports[d.port] t.ports[d.port]) :
    KeepsServing s t := by
  refine of_production hothers.others hothers.starting h.active (fun _ => ⟨h.law, h.ends⟩) (fun _ d' => ?_)
  rw [hothers.datapath, h.grant, hd]
  split
  · exact ⟨nofun, nofun⟩
  · next hne =>
    refine ⟨nofun, fun heq => absurd ?_ hne⟩
    rw [← Option.some.inj heq]

theorem not_resetting_of_no_grant {x : Port} (hx : PortOk x) (hg : headGrant x = none) : x.resetting = false := by
  cases hq : x.queue with
  | nil => exact resetting_nil hq
  | cons h rest =>
    rw [resetting_cons hq]
    exact ((portOk_headed hq).1 hx).not_resetting ((headGrant_eq_none hq).1 hg)

/-- Messages taken one after another by a port whose head has no granted row. -/
theorem foldl_takeMessage (ms : List LinkMessage) (s : State) {p : Stream} (hx : PortOk s.ports[p])
    (hg : headGrant s.ports[p] = none) :
    let t := ms.foldl (fun s m => s.takeMessage p m) s
    OthersKept s t p ∧ t.ports[p].active = s.ports[p].active ∧ PortOk t.ports[p] ∧ headGrant t.ports[p] = none ∧
      ∃ more, t.ports[p].out = s.ports[p].out ++ more := by
  induction ms generalizing s with
  | nil => exact ⟨(SameServing.refl s).othersKept p, rfl, hx, hg, [], (List.append_nil _).symm⟩
  | cons m ms ih =>
    have hmoves := MovesPort.takeMessage hx (not_resetting_of_no_grant hx hg) m
    obtain ⟨hactive, hlaw, hgrant, ⟨made, hout, -⟩⟩ := hmoves.move
    obtain ⟨hothers', hactive', hlaw', hgrant', more, hout'⟩ := ih _ hlaw (hgrant.trans hg)
    refine ⟨hmoves.toOthersKept.trans hothers', hactive'.trans hactive, hlaw', hgrant', made ++ more, ?_⟩
    rw [List.foldl_cons, hout', hout, List.append_assoc]

/-- A resetting head lets go, and the messages held behind it are taken (R133; log entry 11). -/
theorem finishReset_freed {s : State} {p : Stream} {h : Lookup} {rest : List Lookup} (hx : PortOk s.ports[p])
    (hq : s.ports[p].queue = h :: rest) (hr : h.resetting = true) :
    OthersKept s (s.finishReset p) p ∧ PortFreed s.ports[p] (s.finishReset p).ports[p] := by
  have hk := (portOk_headed hq).1 hx
  obtain ⟨rfl, hcredits⟩ := hk.reset hr
  have hgranted : h.granted ≠ none := fun hnone => ne_true_of_eq_false (hk.not_resetting hnone) hr
  rw [finishReset_eq hq]
  generalize hu : withPort (s.releaseRefs h.selection) p
    { s.ports[p] with queue := [], held := [], out := s.ports[p].out ++ [.notice .resetDone] } = u
  have hothers : OthersKept s u p := by
    rw [← hu]
    exact ((SameServing.releaseRefs s _).othersKept p).trans (OthersKept.withPort _ p _)
  have hport : u.ports[p] =
      { s.ports[p] with queue := [], held := [], out := s.ports[p].out ++ [.notice .resetDone] } := by
    rw [← hu, withPort_get_same]
  have hlaw : PortOk u.ports[p] := by
    rw [hport]
    exact (portOk_vacant rfl).2 ⟨hk.credits, hk.timer_stopped hgranted, rfl, fun _ => hcredits⟩
  have hnone : headGrant u.ports[p] = none := by
    rw [hport]
    exact headGrant_nil rfl
  obtain ⟨hothers', hactive', hlaw', hgrant', more, hout'⟩ := foldl_takeMessage s.ports[p].held u hlaw hnone
  refine ⟨hothers.trans hothers', ?_, hlaw', hgrant', endsOnce_of_resetDone (more := more) ?_⟩
  · rw [hactive', hport]
  · rw [hout', hport, List.append_assoc]
    rfl

section HandedBack

variable {x : Port} {h : Lookup} {rest : List Lookup}

/-- A head ends in the event that brings back its granted row: messages that end nothing, then its END. -/
theorem PortFreed.endHead {y : Port} (hx : Headed x h rest) (hq : x.queue = h :: rest) (hr : h.resetting = false)
    (hy : y.queue = rest) (hc : y.credits ≤ 4) (ht : y.timer = timerBehind y.credits y.stallLimit rest)
    (hh : y.held = x.held) (ha : y.active = x.active) {before after : List OutMessage} {m : OutMessage}
    (hout : y.out = x.out ++ (before ++ m :: after)) (hbefore : Quiet before) (hm : endTag m = some h.tag)
    (hafter : Quiet after) : PortFreed x y := by
  obtain ⟨hlaw, hgrant⟩ := portOk_behind hx hr hy hc ht hh ha
  obtain ⟨hends, hdone⟩ := filterMap_end hm hafter
  refine ⟨ha, hlaw, hgrant, endsOnce_head hx hq hy hout ?_ ?_⟩
  · rw [List.filterMap_append, hends, List.filterMap_eq_nil_iff.2 fun m' hm' => (hbefore m' hm').1, List.nil_append]
  · exact fun hmem => (List.mem_append.1 hmem).elim (fun hin => (hbefore _ hin).2 rfl) hdone

theorem quiet_row (tag : Byte) (r : Nat) (ks : List Knot) : Quiet [.row tag r ks] := quiet_singleton rfl nofun

/-- A head that goes on after its row, the timer judged for it (R125, R126). -/
theorem PortFreed.goesOn (hx : Headed x h rest) (hq : x.queue = h :: rest) (hg : h.granted ≠ none)
    (hr : h.resetting = false) (hc : h.cancelling = false) (howed : h.rowsOwed ≠ []) (r : Nat) (ks : List Knot) :
    PortFreed x (rowMade x h rest r ks).judgeTimer := by
  have hfour : x.credits - 1 ≤ 4 := (Nat.sub_le _ _).trans hx.credits
  rw [judgeTimer_rowMade howed hc]
  refine ⟨rfl, (portOk_headed (h := { h with granted := none, rowsSent := h.rowsSent + 1 }) (rest := rest) rfl).2 ?_,
    (headGrant_eq_none rfl).2 rfl, endsOnce_of_kept rfl (quiet_row h.tag r ks) ?_⟩
  · refine ⟨hx.room, hx.tags, hx.waiting, hfour, ?_, ⟨fun _ => ⟨howed, hc, hr⟩, ?_, ?_⟩, nofun, ?_, hx.held, hx.holding,
      hx.active⟩
    · intro e limit hrun
      dsimp only at hrun
      rw [hx.timer_stopped hg] at hrun
      split at hrun
      · next hcond =>
        obtain ⟨hone, hlimit⟩ := hcond
        cases hrun
        exact ⟨hlimit, Nat.sub_eq_zero_of_le hone, howed, rfl, hc⟩
      · cases hrun
    · exact fun hcancel => absurd hcancel (ne_true_of_eq_false hc)
    · exact fun hreset => absurd hreset (ne_true_of_eq_false hr)
    · exact fun hreset => absurd hreset (ne_true_of_eq_false hr)
  · rw [hq]
    intro l hl
    rcases List.mem_cons.1 hl with rfl | hl
    · exact ⟨_, List.mem_cons_self, rfl, rfl⟩
    · exact ⟨l, List.mem_cons_of_mem _ hl, rfl, rfl⟩

end HandedBack

section Production

variable {s : State} {d : Producing} {h : Lookup} {rest : List Lookup}

/-- The head of the port whose row is in production has that row granted (R136). -/
theorem granted_of_production (hs : ServingLaw s) (hd : s.datapath = some d)
    (hq : s.ports[d.port].queue = h :: rest) : h.granted ≠ none := by
  obtain ⟨-, hrow⟩ := servingLaw_iff.1 hs
  obtain ⟨-, hg⟩ := (headGrant_eq_some hq).1 ((hrow d).1 hd)
  rw [hg]
  exact Option.some_ne_none _

/-- A head ends when its granted row comes back, in a state u that has made messages on its port and serves the other
ports as s does. -/
theorem KeepsServing.headEnded {u : State} (hd : s.datapath = some d) (hk : Headed s.ports[d.port] h rest)
    (hq : s.ports[d.port].queue = h :: rest) (hr : h.resetting = false)
    (hu : OthersKept { s with datapath := none } u d.port) (hc : u.ports[d.port].credits ≤ 4)
    (hh : u.ports[d.port].held = s.ports[d.port].held) (ha : u.ports[d.port].active = s.ports[d.port].active)
    {before : List OutMessage} (hout : u.ports[d.port].out = s.ports[d.port].out ++ before) (hbefore : Quiet before)
    {m : OutMessage} (hm : endTag m = some h.tag) : KeepsServing s (headEnded u d.port h rest [m]) := by
  obtain ⟨after, hafter, heq⟩ := MovesPort.headEnded_eq u d.port h rest m
  rw [heq]
  refine of_freed hd ((hu.trans ((SameServing.releaseRefs u _).othersKept _)).trans (OthersKept.withPort _ _ _)) ?_
  rw [withPort_get_same]
  exact PortFreed.endHead hk hq hr rfl hc rfl hh ha (by rw [← List.append_assoc, ← hout]) hbefore hm hafter

/-- A resetting head whose granted row comes back, in a state u that differs from s in neither ports nor start-up. -/
theorem KeepsServing.finishReset {u : State} (hd : s.datapath = some d) (hx : PortOk s.ports[d.port])
    (hq : s.ports[d.port].queue = h :: rest) (hr : h.resetting = true)
    (hu : SameServing { s with datapath := none } u) : KeepsServing s (u.finishReset d.port) := by
  have hports : u.ports = s.ports := hu.ports
  obtain ⟨hothers, hfreed⟩ := finishReset_freed (s := u) (p := d.port) (by rw [hports]; exact hx)
    (by rw [hports]; exact hq) hr
  rw [hports] at hfreed
  exact of_freed hd ((hu.othersKept _).trans hothers) hfreed

theorem endTag_endStatus (tag : Byte) (sel : Selection) : endTag (.ended tag sel.endStatus) = some tag := by
  cases sel <;> rfl

theorem KeepsServing.handOver (hd : s.datapath = some d) (hq : s.ports[d.port].queue = h :: rest) (ks : List Knot) :
    KeepsServing s (s.handOver d.port h d.row ks) := by
  refine of_law fun hs => ?_
  have hx := portOk_of_servingLaw hs d.port
  have hk := (portOk_headed hq).1 hx
  have hg := granted_of_production hs hd hq
  cases hr : h.resetting with
  | true =>
    rw [handOver_resetting hr]
    exact finishReset hd hx hq hr (SameServing.refl _)
  | false =>
    have hends : ∀ m, endTag m = some h.tag → KeepsServing s (Safety.headEnded
        (withPort { s with datapath := none } d.port (rowMade s.ports[d.port] h rest d.row ks)) d.port h rest [m]) := by
      intro m hm
      refine headEnded hd hk hq hr (OthersKept.withPort _ _ _) ?_ ?_ ?_ ?_ (quiet_row h.tag d.row ks) hm <;>
        rw [withPort_get_same]
      · exact (Nat.sub_le _ _).trans hk.credits
      · rfl
      · rfl
      · rfl
    rw [handOver_of_not_resetting hr hq]
    dsimp only
    split
    · exact hends _ rfl
    · next hc =>
      split
      · exact hends _ (endTag_endStatus _ _)
      · next howed =>
        have hgoes := PortFreed.goesOn hk hq hg hr (Bool.eq_false_iff.2 hc) howed d.row ks
        rw [modPort_eq_withPort, withPort_get_same, withPort_withPort]
        refine of_freed hd (OthersKept.withPort _ _ _) ?_
        rw [withPort_get_same]
        exact hgoes

/-- A report of damage marks an entry, and nothing of serving. -/
theorem SameServing.damageReported (s : State) (i : EntryIndex) : SameServing s (damageReported s i) := by
  unfold Safety.damageReported
  split
  · exact ⟨rfl, rfl, rfl⟩
  · exact refl s

theorem KeepsServing.reportFault (hd : s.datapath = some d) (hq : s.ports[d.port].queue = h :: rest) (i : EntryIndex) :
    KeepsServing s (s.reportFault d.port h i) := by
  refine of_law fun hs => ?_
  have hx := portOk_of_servingLaw hs d.port
  have hk := (portOk_headed hq).1 hx
  obtain ⟨hports, -, hstart⟩ := SameServing.damageReported s i
  have hmarked : SameServing { s with datapath := none } { damageReported s i with datapath := none } :=
    ⟨hports, rfl, hstart⟩
  unfold State.reportFault
  rw [reportDamage_eq]
  dsimp only
  split
  · next hr => exact finishReset hd hx hq hr hmarked
  · next hr =>
    have hqueue : (damageReported s i).ports[d.port].queue = h :: rest := by rw [hports, hq]
    rw [endHead_eq (s := { damageReported s i with datapath := none }) _ hqueue]
    refine headEnded (u := { damageReported s i with datapath := none }) hd hk hq (Bool.eq_false_iff.2 hr)
      (hmarked.othersKept _) ?_ ?_ ?_ (before := []) ?_ quiet_nil rfl <;> dsimp only <;> rw [hports]
    · exact hk.credits
    · rw [List.append_nil]

end Production

/-! ### Timers (R128, R129) -/

theorem PortMove.advance {x : Port} (hx : PortOk x) : PortMove x { x with timer := x.timer.advance } := by
  refine ⟨rfl, ?_, headGrant_congr rfl, endsOnce_of_same_queue (List.append_nil _).symm quiet_nil rfl⟩
  cases hq : x.queue with
  | nil =>
    obtain ⟨hcredits, htimer, hheld, hoffline⟩ := (portOk_vacant hq).1 hx
    exact (portOk_vacant rfl).2 ⟨hcredits, by rw [htimer]; rfl, hheld, hoffline⟩
  | cons h rest =>
    have hk := (portOk_headed hq).1 hx
    refine (portOk_headed rfl).2 { hk with timer := fun e limit ht => ?_ }
    cases htimer : x.timer with
    | stopped =>
      rw [htimer] at ht
      cases ht
    | running e' limit' =>
      rw [htimer] at ht
      cases ht
      exact hk.timer e' _ htimer

theorem KeepsServing.tick (s : State) : KeepsServing s s.tick := by
  unfold State.tick
  cases hdue : s.duePort with
  | some p =>
    obtain ⟨e, l, ht, -⟩ := (due_iff _).1 (List.find?_some (p := fun p : Stream => s.ports[p].timer.due) hdue)
    exact of_moves fun hx => MovesPort.expire hx ht
  | none =>
    have hframe := advanceTimers_frame s
    refine of_ports (t := s.advanceTimers) (fun q hx => ?_) (by rw [hframe]) (by rw [hframe]; rfl)
    rw [advanceTimers_ports]
    exact PortMove.advance hx

end Sys2Proof.LookupLink

/-! PROOFS. Requests and writes that leave ports and datapath alone, and SET_PORT. -/

namespace Sys2Proof.LookupLink

open Sys2Proof Sys2Proof.Machine Sys2Proof.Safety Sys2Proof.ProfileTable Sys2Proof.SurfaceServing
open Sys2Proof.EditsAndPoints (makePoint_eq_offer countEdge_eq_offer foldl_offer_frame)

namespace SameServing

variable {s t : State}

/-! ### Shared operations -/

theorem answer (s : State) (tag code : Byte) (r : Result) (d : List Byte) : SameServing s (s.respond tag code r d) :=
  ⟨rfl, rfl, rfl⟩

theorem respond (h : SameServing s t) (tag code : Byte) (r : Result) (d : List Byte) :
    SameServing s (t.respond tag code r d) := h.trans (answer t tag code r d)

theorem windowSelected (s : State) (w : Window) (acks : List Bool) : SameServing s (s.selectWindow w acks) :=
  ⟨rfl, rfl, rfl⟩

/-- A long request begins on an engine that is not STARTING. -/
theorem startJob (h : SameServing s t) (hs : isStarting s = false) (tag code : Byte) (job : Job) :
    SameServing s (t.startJob tag code job) := ⟨h.ports, h.datapath, hs.symm⟩

/-- A long request ends. -/
theorem endJob (h : SameServing s t) (hs : isStarting s = false) (tag code : Byte) (r : Result) (d : List Byte) :
    SameServing s (t.endJob tag code r d) := ⟨h.ports, h.datapath, hs.symm⟩

theorem reportDamage (s : State) (i : EntryIndex) : SameServing s (s.reportDamage i) := by
  rw [reportDamage_eq]
  exact damageReported s i

theorem granted (s : State) (i : EntryIndex) (pr : Profile) : SameServing s (granted s i pr) := by
  rw [granted_frame]
  exact ⟨rfl, rfl, rfl⟩

theorem writeKnots (s : State) (i : EntryIndex) (first : Nat) (ks : List Knot) :
    SameServing s (s.writeKnots i first ks) := by
  rw [writeKnots_frame]
  exact ⟨rfl, rfl, rfl⟩

theorem loadKnots (s : State) (i : EntryIndex) (f : SlotFields) (g : Geometry) (upsets : List LoadUpset) :
    SameServing s (s.loadKnots i f g upsets) := by
  rw [loadKnots_frame]
  exact ⟨rfl, rfl, rfl⟩

theorem acceptEdit (s : State) (tag code : Byte) (n : Stream) (e : Edit) : SameServing s (s.acceptEdit tag code n e) :=
  ⟨rfl, rfl, rfl⟩

/-! ### Profiles and knots -/

theorem create (tag columns rows channels format : Byte) (label : Word) (s : State) :
    SameServing s (reqCreate tag columns rows channels format label s) := by
  unfold reqCreate
  split
  · next g f _ _ =>
    rcases allocate_cases s { origin := .host, geometry := g, format := f, label := label } with
      ⟨r, ha⟩ | ⟨i, -, -, ha⟩
    · rw [ha]
      exact answer s tag _ _ _
    · rw [ha]
      exact (granted s i _).respond tag _ _ _
  · exact answer s tag _ _ _

theorem delete (tag : Byte) (h : RawHandle) (s : State) : SameServing s (reqDelete tag h s) := by
  unfold reqDelete
  repeat' split
  all_goals exact ⟨rfl, rfl, rfl⟩

theorem queryProfile (tag : Byte) (h : RawHandle) (s : State) : SameServing s (reqQueryProfile tag h s) := by
  unfold reqQueryProfile
  dsimp only
  repeat' split
  all_goals exact answer s tag _ _ _

theorem writeKnotsRequest (tag : Byte) (h : RawHandle) (first : Word) (count : Byte) (ks : List Word) (s : State) :
    SameServing s (reqWriteKnots tag h first count ks s) := by
  unfold reqWriteKnots
  split
  · exact answer s tag _ _ _
  · split
    · exact answer s tag _ _ _
    · split
      · exact answer s tag _ _ _
      · split
        · exact answer s tag _ _ _
        · split
          · exact answer s tag _ _ _
          · split
            · exact answer s tag _ _ _
            · exact (writeKnots s _ _ _).respond tag _ _ _

theorem readKnots (tag : Byte) (h : RawHandle) (first : Word) (count : Byte) (s : State) :
    SameServing s (reqReadKnots tag h first count s) := by
  unfold reqReadKnots
  split
  · exact answer s tag _ _ _
  · split
    · exact answer s tag _ _ _
    · split
      · exact answer s tag _ _ _
      · split
        · exact answer s tag _ _ _
        · exact (reportDamage s _).respond tag _ _ _

theorem finish (hs : isStarting s = false) (tag : Byte) (h : RawHandle) (crc : Word) :
    SameServing s (reqFinish tag h crc s) := by
  unfold reqFinish
  split
  · exact answer s tag _ _ _
  · split
    · exact answer s tag _ _ _
    · exact (refl s).startJob hs tag _ _

theorem verify (hs : isStarting s = false) (tag : Byte) (h : RawHandle) : SameServing s (reqVerify tag h s) := by
  unfold reqVerify
  split
  · exact answer s tag _ _ _
  · split
    · exact (refl s).startJob hs tag _ _
    · exact answer s tag _ _ _

/-! ### Views, edits, commits -/

theorem configureView (tag stream columns rows channels format : Byte) (s : State) :
    SameServing s (reqConfigureView tag stream columns rows channels format s) := by
  unfold reqConfigureView
  repeat' split
  all_goals exact ⟨rfl, rfl, rfl⟩

theorem queryView (tag stream : Byte) (s : State) : SameServing s (reqQueryView tag stream s) := by
  unfold reqQueryView
  split <;> exact answer s tag _ _ _

theorem attach (tag stream : Byte) (h : RawHandle) (key plateau : Word) (s : State) :
    SameServing s (reqAttach tag stream h key plateau s) := by
  unfold reqAttach
  repeat' split
  all_goals exact ⟨rfl, rfl, rfl⟩

theorem detach (tag stream : Byte) (h : RawHandle) (s : State) : SameServing s (reqDetach tag stream h s) := by
  unfold reqDetach
  repeat' split
  all_goals exact ⟨rfl, rfl, rfl⟩

theorem move (tag stream : Byte) (h : RawHandle) (key plateau : Word) (s : State) :
    SameServing s (reqMove tag stream h key plateau s) := by
  unfold reqMove
  repeat' split
  all_goals exact ⟨rfl, rfl, rfl⟩

theorem commit (tag mask kind : Byte) (n : Word) (s : State) : SameServing s (reqCommit tag mask kind n s) := by
  have harm : ∀ l : List (Stream × Word), SameServing s (l.foldl (fun s p => s.arm p.1 p.2) s) := fun l => by
    rw [foldl_arm_frame]
    exact ⟨rfl, rfl, rfl⟩
  unfold reqCommit
  split
  · split
    · exact answer s tag _ _ _
    · split
      · exact answer s tag _ _ _
      · exact (harm _).respond tag _ _ _
  · exact answer s tag _ _ _

theorem withdraw (tag mask : Byte) (s : State) : SameServing s (reqWithdraw tag mask s) := by
  unfold reqWithdraw
  split
  · exact answer s tag _ _ _
  · rw [foldl_disarm_frame]
    exact ⟨rfl, rfl, rfl⟩

theorem discard (tag mask : Byte) (s : State) : SameServing s (reqDiscard tag mask s) := by
  unfold reqDiscard
  split
  · exact answer s tag _ _ _
  · rw [foldl_emptyList_frame]
    exact ⟨rfl, rfl, rfl⟩

theorem queryEdits (tag stream : Byte) (s : State) : SameServing s (reqQueryEdits tag stream s) := by
  unfold reqQueryEdits
  split <;> exact answer s tag _ _ _

/-! ### Points -/

theorem point (tag mask : Byte) (s : State) : SameServing s (reqPoint tag mask s) := by
  unfold reqPoint
  split
  · exact answer s tag _ _ _
  · rw [makePoint_eq_offer, foldl_offer_frame]
    exact ⟨rfl, rfl, rfl⟩

theorem boundaryEdge (line : Stream) (level : LineLevel) (s : State) :
    SameServing s
      ((s.countingStreams line level).foldl State.countEdge { s with lines := s.lines.set line level }) := by
  rw [countEdge_eq_offer, foldl_offer_frame]
  exact ⟨rfl, rfl, rfl⟩

theorem setPoints (tag stream source polarity prescale : Byte) (s : State) :
    SameServing s (reqSetPoints tag stream source polarity prescale s) := by
  unfold reqSetPoints
  repeat' split
  all_goals exact ⟨rfl, rfl, rfl⟩

theorem clearCounts (tag mask : Byte) (s : State) : SameServing s (reqClearCounts tag mask s) := by
  unfold reqClearCounts
  split
  · exact answer s tag _ _ _
  · rw [StepKeeps.foldl_clearCount_frame]
    exact ⟨rfl, rfl, rfl⟩

/-! ### Ports queried, slots, settings -/

theorem queryPort (tag port : Byte) (s : State) : SameServing s (reqQueryPort tag port s) := by
  unfold reqQueryPort
  split <;> exact answer s tag _ _ _

theorem programBaseline (hs : isStarting s = false) (tag slot : Byte) (h : RawHandle) (key plateau : Word) :
    SameServing s (reqProgramBaseline tag slot h key plateau s) := by
  unfold reqProgramBaseline
  split
  · exact answer s tag _ _ _
  · split
    · exact answer s tag _ _ _
    · split
      · exact answer s tag _ _ _
      · split
        · exact answer s tag _ _ _
        · split
          · exact answer s tag _ _ _
          · exact (refl s).startJob hs tag _ _

theorem restoreBaseline (hs : isStarting s = false) (tag slot : Byte) :
    SameServing s (reqRestoreBaseline tag slot s) := by
  unfold reqRestoreBaseline
  split
  · exact answer s tag _ _ _
  · next n _ =>
    split
    · exact answer s tag _ _ _
    · exact answer s tag _ _ _
    · next f g fmt _ =>
      rcases allocate_cases s (slotProfile n f g fmt) with ⟨r, ha⟩ | ⟨i, -, -, ha⟩
      · rw [ha]
        exact answer s tag _ _ _
      · rw [ha]
        exact (granted s i _).startJob hs tag _ _

theorem querySlot (tag slot : Byte) (s : State) : SameServing s (reqQuerySlot tag slot s) := by
  unfold reqQuerySlot
  split <;> exact answer s tag _ _ _

theorem setGroup (tag address enable acknowledger : Byte) (s : State) :
    SameServing s (reqSetGroup tag address enable acknowledger s) := by
  unfold reqSetGroup
  repeat' split
  all_goals exact ⟨rfl, rfl, rfl⟩

theorem setAlerts (tag mask : Byte) (watermark : Word) (s : State) :
    SameServing s (reqSetAlerts tag mask watermark s) := by
  unfold reqSetAlerts
  repeat' split
  all_goals exact ⟨rfl, rfl, rfl⟩

theorem runGroupRequest (tag : Byte) (r : Request) (s : State) : SameServing s (runGroupRequest tag r s) := by
  unfold Machine.runGroupRequest
  split
  · exact commit tag _ _ _ s
  · exact withdraw tag _ s
  · exact discard tag _ s
  · exact point tag _ s
  · exact clearCounts tag _ s
  · exact answer s tag _ _ _

theorem closeGroupWrite (s : State) (message : List Byte) : SameServing s (s.closeGroupWrite message) := by
  unfold State.closeGroupWrite
  split
  · unfold State.answerJudged
    split
    · exact answer s _ _ _ _
    · exact answer s _ _ _ _
    · exact runGroupRequest _ _ s
  · exact ⟨rfl, rfl, rfl⟩
  · exact ⟨rfl, rfl, rfl⟩

/-! ### The ends of long requests (R40, R43, R155 to R159, R171) -/

theorem takeAbort (s : State) : SameServing s s.takeAbort := by
  have hbusy : ∀ tag job, s.engine = .busy tag job → isStarting s = false := fun tag job he => by
    unfold isStarting
    rw [he]
  unfold State.takeAbort
  split
  · next he => exact (refl s).endJob (hbusy _ _ he) _ _ _ _
  · next he => exact (refl s).endJob (hbusy _ _ he) _ _ _ _
  · next i he =>
    have hfree : SameServing s (s.freeEntry i) := ⟨rfl, rfl, rfl⟩
    exact hfree.endJob (hbusy _ _ he) _ _ _ _
  · exact refl s
  · exact refl s
  · exact refl s

section Ends

variable (hs : isStarting s = false)
include hs

theorem endFinish (tag : Byte) (i : EntryIndex) (crc : Word) : SameServing s (endFinish tag i crc s) := by
  unfold Machine.endFinish
  split
  · exact (refl s).endJob hs _ _ _ _
  · split
    · exact ⟨rfl, rfl, hs.symm⟩
    · exact (refl s).endJob hs _ _ _ _

theorem endVerify (tag : Byte) (i : EntryIndex) : SameServing s (endVerify tag i s) := by
  unfold Machine.endVerify
  split
  · exact (reportDamage s i).endJob hs _ _ _ _
  · split
    · exact (refl s).endJob hs _ _ _ _
    · exact (reportDamage s i).endJob hs _ _ _ _

theorem endScan (tag : Byte) (n : Stream) (i : EntryIndex) (key plateau : Word) :
    SameServing s (endScan tag n i key plateau s) := by
  unfold Machine.endScan
  split
  · exact (reportDamage s i).endJob hs _ _ _ _
  · split
    · exact (reportDamage s i).endJob hs _ _ _ _
    · split <;> exact ⟨rfl, rfl, hs.symm⟩

theorem endWrite (recorded : Bool) (tag : Byte) (n : Stream) (i : EntryIndex) (key plateau : Word) (bases : List Knot) :
    SameServing s (endWrite recorded tag n i key plateau bases s) := by
  unfold Machine.endWrite
  split
  · have hslot : ∀ u : State, SameServing u (u.setSlot n (Slot.spoil recorded)) := fun _ => ⟨rfl, rfl, rfl⟩
    exact ((reportDamage s i).trans (hslot _)).endJob hs _ _ _ _
  · exact ⟨rfl, rfl, hs.symm⟩

theorem endProgram (writesTook recorded : Bool) (tag : Byte) (n : Stream) (bases : List Knot) :
    SameServing s (endProgram writesTook recorded tag n bases s) := by
  unfold Machine.endProgram
  split <;> exact ⟨rfl, rfl, hs.symm⟩

theorem endRestore (upsets : List LoadUpset) (tag : Byte) (n : Stream) (i : EntryIndex) :
    SameServing s (endRestore upsets tag n i s) := by
  unfold Machine.endRestore
  split
  · next f g _ _ =>
    obtain ⟨hports, hdatapath, -⟩ := loadKnots s i f g upsets
    dsimp only
    repeat' split
    all_goals exact ⟨hports, hdatapath, hs.symm⟩
  · exact refl s

end Ends

/-! ### The start-up load (R161, R162) -/

theorem beginLoad (hs : isStarting s = true) (n : Stream) : SameServing s (s.beginLoad n) := by
  have hstart : isStarting (s.beginLoad n) = true := by
    rcases beginLoad_cases s n with he | ⟨i, f, g, fmt, -, -, -, -, he⟩ <;> rw [he] <;> rfl
  have hframe := beginLoad_frame s n
  exact ⟨by rw [hframe], by rw [hframe], hstart.trans hs.symm⟩

theorem completeLoad (s : State) (n : Stream) (entry : Option EntryIndex) (upsets : List LoadUpset) :
    SameServing s (s.completeLoad n entry upsets) := by
  unfold State.completeLoad
  split
  · exact refl s
  · exact ⟨rfl, rfl, rfl⟩
  · next f g fmt _ =>
    split
    · exact ⟨rfl, rfl, rfl⟩
    · next i =>
      refine (loadKnots s i f g upsets).trans ?_
      dsimp only
      repeat' split
      all_goals exact ⟨rfl, rfl, rfl⟩

end SameServing

/-! ### SET_PORT, and requests as messages (R134, R165, R166) -/

namespace KeepsServing

variable {s t : State}

theorem answer (s : State) (tag code : Byte) (r : Result) (d : List Byte) : KeepsServing s (s.respond tag code r d) :=
  of_same (SameServing.answer s tag code r d)

/-- The two settings of a port are no part of what serving goes by. -/
theorem portSettings (s : State) (p : Stream) (e : Bool) (limit : Byte) {t : State}
    (h : PortOk s.ports[p] → MovesPort (s.modPort p (fun x => { x with enabled := e, stallLimit := limit })) t p) :
    KeepsServing s t := by
  refine of_moves fun hx => MovesPort.congr_left (OthersKept.withPort s p _) ?_ ?_ ?_ (h hx) <;> rw [withPort_get_same]

theorem setPort (tag port enable stallLimit : Byte) (s : State) :
    KeepsServing s (reqSetPort tag port enable stallLimit s) := by
  unfold reqSetPort
  split
  · next p e _ _ =>
    refine then_same (portSettings s p e stallLimit fun hx => ?_) (SameServing.answer _ tag _ _ _)
    have hport : PortOk (s.modPort p (fun x => { x with enabled := e, stallLimit := stallLimit })).ports[p] := by
      rw [State.modPort, setPort_get_same]
      exact portOk_congr hx rfl rfl rfl rfl rfl
    split
    · exact MovesPort.disablePort hport
    · exact MovesPort.refl hport
  · exact answer s tag _ _ _

theorem runRequest (hs : isStarting s = false) (tag : Byte) (r : Request) : KeepsServing s (runRequest tag r s) := by
  cases r with
  | create cols rows ch f l => exact of_same (SameServing.create tag cols rows ch f l s)
  | delete h => exact of_same (SameServing.delete tag h s)
  | queryProfile h => exact of_same (SameServing.queryProfile tag h s)
  | queryStore => exact answer s tag _ _ _
  | writeKnots h first count ks => exact of_same (SameServing.writeKnotsRequest tag h first count ks s)
  | readKnots h first count => exact of_same (SameServing.readKnots tag h first count s)
  | finish h crc => exact of_same (SameServing.finish hs tag h crc)
  | verify h => exact of_same (SameServing.verify hs tag h)
  | configureView n cols rows ch f => exact of_same (SameServing.configureView tag n cols rows ch f s)
  | queryView n => exact of_same (SameServing.queryView tag n s)
  | attach n h k p => exact of_same (SameServing.attach tag n h k p s)
  | detach n h => exact of_same (SameServing.detach tag n h s)
  | move n h k p => exact of_same (SameServing.move tag n h k p s)
  | commit m kind n => exact of_same (SameServing.commit tag m kind n s)
  | withdraw m => exact of_same (SameServing.withdraw tag m s)
  | discard m => exact of_same (SameServing.discard tag m s)
  | queryEdits n => exact of_same (SameServing.queryEdits tag n s)
  | point m => exact of_same (SameServing.point tag m s)
  | setPoints n src pol pre => exact of_same (SameServing.setPoints tag n src pol pre s)
  | clearCounts m => exact of_same (SameServing.clearCounts tag m s)
  | queryPoints => exact answer s tag _ _ _
  | setPort p e l => exact setPort tag p e l s
  | queryPort p => exact of_same (SameServing.queryPort tag p s)
  | programBaseline n h k p => exact of_same (SameServing.programBaseline hs tag n h k p)
  | restoreBaseline n => exact of_same (SameServing.restoreBaseline hs tag n)
  | querySlot n => exact of_same (SameServing.querySlot tag n s)
  | setGroup a e k => exact of_same (SameServing.setGroup tag a e k s)
  | setAlerts m w => exact of_same (SameServing.setAlerts tag m w s)
  | readAlerts => exact of_same ⟨rfl, rfl, rfl⟩

theorem windowSelected (s : State) (w : Window) (acks : List Bool) : KeepsServing s (s.selectWindow w acks) :=
  of_same (SameServing.windowSelected s w acks)

/-- A request's message on an IDLE engine, its window selected. -/
theorem selectWindow {w : Window} {acks : List Bool} (h : KeepsServing (s.selectWindow w acks) t) : KeepsServing s t :=
  after_same (SameServing.windowSelected s w acks) h

theorem not_starting_of_idle (h : s.engine = .idle) : isStarting s = false := by
  unfold isStarting
  rw [h]

theorem onMessage {f : State → State} (message : List Byte)
    (hf : ∀ u : State, isStarting u = false → KeepsServing u (f u)) (s : State) : KeepsServing s (s.onMessage message f) := by
  unfold State.onMessage
  split
  · next hidle => exact selectWindow (hf _ (not_starting_of_idle hidle))
  · exact windowSelected s _ _
  · exact windowSelected s _ _

theorem onRequest {f : State → State} (len : Nat) (hf : ∀ u : State, isStarting u = false → KeepsServing u (f u))
    (s : State) : KeepsServing s (s.onRequest len f) := by
  unfold State.onRequest
  split
  · next hidle => exact selectWindow (hf _ (not_starting_of_idle hidle))
  · exact windowSelected s _ _
  · exact windowSelected s _ _

theorem writeRequest (s : State) (message : List Byte) : KeepsServing s (s.writeRequest message) := by
  unfold State.writeRequest
  split
  · exact windowSelected s _ _
  · refine onMessage _ (fun u hu => ?_) s
    unfold State.answerJudged
    split
    · exact answer u _ _ _ _
    · exact answer u _ _ _ _
    · exact runRequest hu _ _

theorem primaryWrite (s : State) (bytes : List Byte) : KeepsServing s (s.primaryWrite bytes) := by
  unfold State.primaryWrite
  split
  · exact refl s
  · split
    · exact writeRequest s _
    · split
      · exact windowSelected s _ _
      · split
        · split
          · exact windowSelected s _ _
          · exact selectWindow (of_same (SameServing.takeAbort _))
        · split
          · exact windowSelected s _ _
          · exact of_same ⟨rfl, rfl, rfl⟩

end KeepsServing

end Sys2Proof.LookupLink

/-! PROOFS. Every step keeps the law of serving, and each lookup that ends has its one END: row by row, byte by byte,
and on an empty queue. -/

namespace Sys2Proof.LookupLink

open Sys2Proof Sys2Proof.Machine Sys2Proof.Safety Sys2Proof.ProfileTable Sys2Proof.SurfaceServing

/-! ### The start-up's end, and the device reset (R118, R161, R163) -/

theorem isStarting_of_engine {s : State} {n : Stream} {entry : Option EntryIndex} (he : s.engine = .starting n entry) :
    isStarting s = true := by
  unfold isStarting
  rw [he]

/-- A port that is not ACTIVE has no lookup, no credit and no held message. -/
theorem vacant_of_inactive {x : Port} (hx : PortOk x) (ha : x.active = false) :
    x.queue = [] ∧ Vacant x := by
  cases hq : x.queue with
  | nil => exact ⟨rfl, (portOk_vacant hq).1 hx⟩
  | cons h rest =>
    have hactive := ((portOk_headed hq).1 hx).active
    rw [ha] at hactive
    cases hactive

/-- The ports become ACTIVE, with nothing on them (R118, R163). -/
theorem KeepsServing.started {s : State} (hs : isStarting s = true) : KeepsServing s s.started := by
  have hframe := started_frame s
  refine ⟨fun hlaw => ?_, fun _ q => ?_⟩
  · obtain ⟨hports, hrow⟩ := servingLaw_iff.1 hlaw
    have hempty : ∀ q : Stream, s.ports[q].queue = [] ∧ Vacant s.ports[q] := fun q => by
      obtain ⟨hok, ha⟩ := hports q
      exact vacant_of_inactive hok (by rw [ha, hs]; rfl)
    have hidle : isStarting s.started = false := by
      rw [hframe]
      rfl
    have hdatapath : s.started.datapath = s.datapath := by rw [hframe]
    refine servingLaw_iff.2 ⟨fun q => ?_, fun d => ?_⟩
    · obtain ⟨hq, hcredits, htimer, hheld, -⟩ := hempty q
      rw [started_ports, hidle]
      exact ⟨(portOk_vacant (x := { s.ports[q] with active := true, out := s.ports[q].out ++ [.notice .ready] }) hq).2
        ⟨hcredits, htimer, hheld, nofun⟩, rfl⟩
    · rw [hdatapath, hrow, started_ports]
      exact Iff.rfl
  · rw [started_ports]
    exact endsOnce_of_same_queue rfl (quiet_singleton rfl nofun) rfl

theorem KeepsServing.slotLoad {s t : State} {slot : Stream} {upsets : List LoadUpset}
    (h : execSlotLoad slot upsets s = .next t) : KeepsServing s t := by
  unfold execSlotLoad at h
  split at h
  · next n entry he =>
    have hload := SameServing.completeLoad s n entry upsets
    have hstart : isStarting (s.completeLoad n entry upsets) = true := hload.starting.trans (isStarting_of_engine he)
    split at h
    · split at h <;> cases h
      · exact after_same hload (started hstart)
      · exact of_same (hload.trans (SameServing.beginLoad hstart _))
    · cases h
      exact refl s
  · cases h
    exact refl s

/-- The part keeps the law of serving through a device reset, whatever state it strikes. -/
theorem servingLaw_deviceReset (s : State) (moment : ResetMoment) (straps : BitVec 2) :
    ServingLaw ((blocksReset s moment straps).beginLoad 0) := by
  have hstart : isStarting (blocksReset s moment straps) = true := rfl
  refine servingLaw_congr (SameServing.beginLoad hstart 0) (servingLaw_iff.2 ⟨fun p => ?_, fun d => ?_⟩)
  · have hport : (blocksReset s moment straps).ports[p] = s.ports[p].afterReset (sentBy moment.sent p) :=
      resetPorts_get s moment.sent p
    rw [hport]
    exact ⟨(portOk_vacant (x := s.ports[p].afterReset (sentBy moment.sent p)) rfl).2
      ⟨Nat.zero_le 4, rfl, rfl, fun _ => rfl⟩, rfl⟩
  · have hport : (blocksReset s moment straps).ports[d.port] = s.ports[d.port].afterReset (sentBy moment.sent d.port) :=
      resetPorts_get s moment.sent d.port
    have hnone : headGrant (s.ports[d.port].afterReset (sentBy moment.sent d.port)) = none := headGrant_nil rfl
    rw [hport, hnone]
    exact ⟨nofun, nofun⟩

/-! ### The rows that bring no byte -/

/-- Whatever state the outcome gives, serving is kept. -/
def OutcomeServes (s : State) (o : Host.Outcome State Fault Refusal) : Prop := ∀ t, o = .next t → KeepsServing s t

namespace OutcomeServes

variable {s : State}

theorem of_keeps {t : State} (h : KeepsServing s t) : OutcomeServes s (.next t) := by
  intro u hu
  cases hu
  exact h

theorem of_same {t : State} (h : SameServing s t) : OutcomeServes s (.next t) := of_keeps (KeepsServing.of_same h)

theorem refl (s : State) : OutcomeServes s (.next s) := of_keeps (KeepsServing.refl s)

/-- A request row that keeps ports and datapath on an IDLE engine. -/
theorem request {f : State → State} (len : Nat) (hf : ∀ u : State, isStarting u = false → SameServing u (f u)) :
    OutcomeServes s (.next (s.onRequest len f)) :=
  of_keeps (KeepsServing.onRequest len (fun u hu => KeepsServing.of_same (hf u hu)) s)

theorem not_starting_of_busy {tag : Byte} {job : Job} (he : s.engine = .busy tag job) : isStarting s = false := by
  unfold isStarting
  rw [he]

theorem finishComplete : OutcomeServes s (execFinishComplete s) := by
  unfold execFinishComplete
  split
  · next he => exact of_same (SameServing.endFinish (not_starting_of_busy he) _ _ _)
  · exact refl s

theorem verifyComplete : OutcomeServes s (execVerifyComplete s) := by
  unfold execVerifyComplete
  split
  · next he => exact of_same (SameServing.endVerify (not_starting_of_busy he) _ _)
  · exact refl s

theorem scanEnd : OutcomeServes s (execScanEnd s) := by
  unfold execScanEnd
  split
  · next he => exact of_same (SameServing.endScan (not_starting_of_busy he) _ _ _ _ _)
  · exact refl s

theorem programWriteEnd (recorded : Bool) : OutcomeServes s (execProgramWriteEnd recorded s) := by
  unfold execProgramWriteEnd
  split
  · next he => exact of_same (SameServing.endWrite (not_starting_of_busy he) _ _ _ _ _ _ _)
  · exact refl s

theorem programVerifyEnd (writesTook recorded : Bool) :
    OutcomeServes s (execProgramVerifyEnd writesTook recorded s) := by
  unfold execProgramVerifyEnd
  split
  · next he => exact of_same (SameServing.endProgram (not_starting_of_busy he) _ _ _ _ _)
  · exact refl s

theorem restoreComplete (upsets : List LoadUpset) : OutcomeServes s (execRestoreComplete upsets s) := by
  unfold execRestoreComplete
  split
  · next he => exact of_same (SameServing.endRestore (not_starting_of_busy he) _ _ _ _)
  · exact refl s

theorem groupWrite (address : BitVec 7) (others : OtherAcknowledgers) (bytes : List Byte) :
    OutcomeServes s (execGroupWrite address others bytes s) := by
  have hacks : ∀ acks, SameServing s { s with acks := acks } := fun _ => ⟨rfl, rfl, rfl⟩
  unfold execGroupWrite
  split
  · split
    · exact of_same (hacks _)
    · split
      · exact of_same ((hacks _).trans (SameServing.closeGroupWrite _ _))
      · exact of_same (hacks _)
  · exact refl s

theorem boundaryEdge (line : Stream) (level : LineLevel) : OutcomeServes s (execBoundaryEdge line level s) := by
  unfold execBoundaryEdge
  split
  · exact refl s
  · exact of_same (SameServing.boundaryEdge line level s)

theorem handover : OutcomeServes s (execHandover s) := by
  unfold execHandover
  split
  · exact refl s
  · next d hd =>
    split
    · exact refl s
    · next h rest hq =>
      split
      · exact of_keeps (KeepsServing.handOver hd hq _)
      · exact refl s

theorem faultReport : OutcomeServes s (execFaultReport s) := by
  unfold execFaultReport
  split
  · exact refl s
  · next d hd =>
    split
    · exact refl s
    · next h rest hq =>
      split
      · exact refl s
      · exact of_keeps (KeepsServing.reportFault hd hq _)

theorem stallExpiry (p : Stream) : OutcomeServes s (execStallExpiry p s) := by
  unfold execStallExpiry
  split
  · next e limit ht => exact of_keeps (KeepsServing.of_moves fun hx => MovesPort.expire hx ht)
  · exact refl s

/-- Every row but those that bring bytes to a lane and the device reset. -/
theorem exec (r : Instr) (s : State) (hlane : laneBytesOf r = none)
    (hreset : ∀ moment straps, r ≠ .deviceReset moment straps) : OutcomeServes s (exec r s) := by
  cases r with
  | create tag cols rows ch f l => exact request 9 (fun u _ => SameServing.create tag cols rows ch f l u)
  | delete tag h => exact request 5 (fun u _ => SameServing.delete tag h u)
  | queryProfile tag h => exact request 5 (fun u _ => SameServing.queryProfile tag h u)
  | queryStore tag => exact request 3 (fun u _ => SameServing.answer u tag _ _ _)
  | writeKnots tag h first count ks =>
    exact of_keeps (KeepsServing.onMessage _
      (fun u _ => KeepsServing.of_same (SameServing.writeKnotsRequest tag h first count ks u)) s)
  | readKnots tag h first count => exact request 8 (fun u _ => SameServing.readKnots tag h first count u)
  | finish tag h crc => exact request 7 (fun _ hu => SameServing.finish hu tag h crc)
  | finishComplete => exact finishComplete
  | verify tag h => exact request 5 (fun _ hu => SameServing.verify hu tag h)
  | verifyComplete => exact verifyComplete
  | configureView tag n cols rows ch f => exact request 8 (fun u _ => SameServing.configureView tag n cols rows ch f u)
  | queryView tag n => exact request 4 (fun u _ => SameServing.queryView tag n u)
  | attach tag n h k p => exact request 10 (fun u _ => SameServing.attach tag n h k p u)
  | detach tag n h => exact request 6 (fun u _ => SameServing.detach tag n h u)
  | move tag n h k p => exact request 10 (fun u _ => SameServing.move tag n h k p u)
  | commit tag m kind n => exact request 7 (fun u _ => SameServing.commit tag m kind n u)
  | withdraw tag m => exact request 4 (fun u _ => SameServing.withdraw tag m u)
  | discard tag m => exact request 4 (fun u _ => SameServing.discard tag m u)
  | queryEdits tag n => exact request 4 (fun u _ => SameServing.queryEdits tag n u)
  | point tag m => exact request 4 (fun u _ => SameServing.point tag m u)
  | setPoints tag n src pol pre => exact request 7 (fun u _ => SameServing.setPoints tag n src pol pre u)
  | clearCounts tag m => exact request 4 (fun u _ => SameServing.clearCounts tag m u)
  | queryPoints tag => exact request 3 (fun u _ => SameServing.answer u tag _ _ _)
  | setPort tag p e l => exact of_keeps (KeepsServing.onRequest 6 (fun u _ => KeepsServing.setPort tag p e l u) s)
  | queryPort tag p => exact request 4 (fun u _ => SameServing.queryPort tag p u)
  | programBaseline tag n h k p => exact request 10 (fun _ hu => SameServing.programBaseline hu tag n h k p)
  | scanEnd => exact scanEnd
  | programWriteEnd recorded => exact programWriteEnd recorded
  | programVerifyEnd writesTook recorded => exact programVerifyEnd writesTook recorded
  | restoreBaseline tag n => exact request 4 (fun _ hu => SameServing.restoreBaseline hu tag n)
  | restoreComplete upsets => exact restoreComplete upsets
  | querySlot tag n => exact request 4 (fun u _ => SameServing.querySlot tag n u)
  | setGroup tag a e k => exact request 6 (fun u _ => SameServing.setGroup tag a e k u)
  | setAlerts tag m w => exact request 6 (fun u _ => SameServing.setAlerts tag m w u)
  | readAlerts tag => exact request 3 (fun _ _ => ⟨rfl, rfl, rfl⟩)
  | unknownRequest message => exact of_keeps (KeepsServing.writeRequest s message)
  | requestFormatError message => exact of_keeps (KeepsServing.writeRequest s message)
  | busyNack message => exact of_keeps (KeepsServing.writeRequest s message)
  | windowSelect selector extra => exact of_keeps (KeepsServing.primaryWrite s _)
  | abort value extra => exact of_keeps (KeepsServing.primaryWrite s _)
  | groupWrite address others bytes => exact groupWrite address others bytes
  | boundaryEdge line level => exact boundaryEdge line level
  | lookup p tag key first count => cases hlane
  | credit p n => cases hlane
  | cancel p tag => cases hlane
  | linkReset p => cases hlane
  | badMessage p bytes => cases hlane
  | linkMessageHeld p m => cases hlane
  | grant => exact fun _ h => KeepsServing.grant h
  | handover => exact handover
  | faultReport => exact faultReport
  | stallExpiry p => exact stallExpiry p
  | deviceReset moment straps => exact absurd rfl (hreset moment straps)
  | slotLoad slot upsets => exact fun _ h => KeepsServing.slotLoad h
  | parityFault page offset upset => exact of_same ⟨rfl, rfl, rfl⟩
  | idleByte p => cases hlane

end OutcomeServes

/-! ### The rows that bring bytes (R114) -/

theorem KeepsServing.receiveByte (s : State) (p : Stream) (b : Byte) : KeepsServing s (s.receiveByte p b) :=
  of_moves fun hx => MovesPort.receiveByte hx b

theorem servingLaw_receive {s : State} (hs : ServingLaw s) (p : Stream) (bytes : List Byte) :
    ServingLaw (s.receive p bytes) := by
  induction bytes generalizing s with
  | nil => exact hs
  | cons b bytes ih => exact ih ((KeepsServing.receiveByte s p b).law hs)

/-- A row that brings bytes is their arrival, one after another. -/
theorem exec_lane {c : Instr} {p : Stream} {bytes : List Byte} (h : laneBytesOf c = some (p, bytes)) (s : State) :
    exec c s = .next (s.receive p bytes) := by
  unfold laneBytesOf at h
  split at h <;> cases h <;> rfl

theorem servingLaw_exec {s t : State} {c : Instr} (hs : ServingLaw s) (h : exec c s = .next t) : ServingLaw t := by
  cases hlane : laneBytesOf c with
  | some lane =>
    obtain ⟨p, bytes⟩ := lane
    rw [exec_lane hlane] at h
    cases h
    exact servingLaw_receive hs p bytes
  | none =>
    by_cases hreset : ∃ moment straps, c = .deviceReset moment straps
    · obtain ⟨moment, straps, rfl⟩ := hreset
      rw [exec_deviceReset] at h
      cases h
      exact servingLaw_deviceReset s moment straps
    · exact (OutcomeServes.exec c s hlane (fun moment straps heq => hreset ⟨moment, straps, heq⟩) t h).law hs

theorem servingLaw_step {s t : State} (hs : ServingLaw s) (h : step s = .next t) : ServingLaw t := by
  unfold step at h
  cases hp : s.pending with
  | nil =>
    rw [hp] at h
    cases h
    exact (KeepsServing.tick s).law hs
  | cons c rest =>
    rw [hp] at h
    have htaken : SameServing s { s with pending := rest } := ⟨rfl, rfl, rfl⟩
    exact servingLaw_exec (servingLaw_congr htaken hs) h

/-- Settles O8: what each byte, row and idle step does to ports and datapath keeps their law, and the ENDs it makes are
those of the lookups that leave. -/
theorem stepKeepsServingLaw : Obligations.StepKeepsServingLaw := by
  unfold Obligations.StepKeepsServingLaw
  refine ⟨fun s t => servingLaw_step, ?byteEnds, ?byteLaw, ?lanes, ?rowEnds, ?idleEnds⟩
  case byteEnds => exact fun s p q b hs => (KeepsServing.receiveByte s p b).ends hs q
  case byteLaw => exact fun s p b hs => (KeepsServing.receiveByte s p b).law hs
  case lanes => exact fun s c p bytes hlane => exec_lane hlane s
  case rowEnds => exact fun s t c q hs hlane hreset h => (OutcomeServes.exec c s hlane hreset t h).ends hs q
  case idleEnds =>
    intro s t q hs hp h
    rw [step_empty hp] at h
    cases h
    exact (KeepsServing.tick s).ends hs q

end Sys2Proof.LookupLink

/-! PROOFS. The grant: the ports in their cyclic order, the first candidate among them, and the row it is granted. -/

namespace Sys2Proof.SurfaceServing

open Sys2Proof Sys2Proof.Machine Sys2Proof.Safety Sys2Proof.LookupLink

/-! ### The order of a grant (R137) -/

theorem mem_grantOrder (last p : Stream) : p ∈ grantOrder last := by
  revert last p
  decide

/-- A grant looks at the ports by their distance from the port after the one last granted. -/
theorem grantOrder_sorted (last : Stream) :
    (grantOrder last).Pairwise (fun p q => (p - (last + 1)).val < (q - (last + 1)).val) := by
  revert last
  decide

/-- In a list sorted by f, the first element with c is the one that f puts lowest. -/
theorem find?_of_sorted {α : Type} {f : α → Nat} {c : α → Bool} {l : List α}
    (hl : l.Pairwise (fun a b => f a < f b)) {x : α} (hx : x ∈ l) (hc : c x = true)
    (hmin : ∀ y, c y = true → f x ≤ f y) : l.find? c = some x := by
  obtain ⟨before, after, rfl⟩ := List.append_of_mem hx
  refine List.find?_eq_some_iff_append.2 ⟨hc, before, after, rfl, fun y hy => ?_⟩
  obtain ⟨-, -, hbefore⟩ := List.pairwise_append.1 hl
  have hlt : f y < f x := hbefore y hy x List.mem_cons_self
  have hnot : ¬ c y = true := fun hcy => absurd (hmin y hcy) (Nat.not_le.2 hlt)
  simpa using hnot

theorem grantee_eq_some {s : State} {p : Stream} (hc : s.ports[p].candidate = true)
    (hmin : ∀ q : Stream, s.ports[q].candidate = true →
      (p - (s.lastGranted + 1)).val ≤ (q - (s.lastGranted + 1)).val) : s.grantee = some p :=
  find?_of_sorted (c := fun q : Stream => s.ports[q].candidate) (grantOrder_sorted s.lastGranted)
    (mem_grantOrder s.lastGranted p) hc hmin

theorem grantee_eq_none {s : State} (h : ∀ q : Stream, ¬ s.ports[q].candidate = true) : s.grantee = none :=
  List.find?_eq_none.2 fun q _ => h q

/-! ### A GRANT that changes nothing (log entry 7) -/

theorem execGrant_of_producing {s : State} (hd : s.datapath ≠ none) : execGrant s = .next s := by
  obtain ⟨d, hd⟩ := Option.ne_none_iff_exists'.1 hd
  unfold execGrant
  rw [hd]

theorem execGrant_of_no_grantee {s : State} (hp : s.grantee = none) : execGrant s = .next s := by
  unfold execGrant
  rw [hp]
  cases s.datapath <;> rfl

/-- Settles O47: the ports stand in the order of their distance from the port after the one last granted, so the
candidate at the least distance is the one found. -/
theorem grantGoesToNextCandidate : Obligations.GrantGoesToNextCandidate := by
  unfold Obligations.GrantGoesToNextCandidate
  intro s candidate
  have hcandidate : ∀ q : Stream, s.ports[q].candidate = true ↔ candidate q := fun q => candidate_iff
  refine ⟨?unchanged, ?granted⟩
  case unchanged =>
    rintro (hbusy | hnone)
    · exact execGrant_of_producing hbusy
    · exact execGrant_of_no_grantee (grantee_eq_none fun q hq => hnone q ((hcandidate q).1 hq))
  case granted =>
    intro p h rest r rows hd hp hmin hq hr
    have hgrantee : s.grantee = some p :=
      grantee_eq_some ((hcandidate p).2 hp) fun q hcq => hmin q ((hcandidate q).1 hcq)
    exact exec_grant hd hgrantee hq hr

end Sys2Proof.SurfaceServing

/-! PROOFS. The slots of the Baseline Store: every event but the three of a programming leaves them alone. -/

namespace Sys2Proof.BaselineStore

open Sys2Proof Sys2Proof.Machine Sys2Proof.Safety Sys2Proof.ProfileTable Sys2Proof.LookupLink
open Sys2Proof.EditsAndPoints (makePoint_eq_offer countEdge_eq_offer foldl_offer_frame)

/-! ### Shared operations -/

@[simp] theorem reportDamage_slots (s : State) (i : EntryIndex) : (s.reportDamage i).slots = s.slots := by
  unfold State.reportDamage
  split <;> rfl

@[simp] theorem freeEntry_slots (s : State) (i : EntryIndex) : (s.freeEntry i).slots = s.slots := rfl

@[simp] theorem granted_slots (s : State) (i : EntryIndex) (pr : Profile) : (granted s i pr).slots = s.slots := by
  rw [granted_frame]

@[simp] theorem writeKnots_slots (s : State) (i : EntryIndex) (first : Nat) (ks : List Knot) :
    (s.writeKnots i first ks).slots = s.slots := by
  rw [writeKnots_frame]

@[simp] theorem loadKnots_slots (s : State) (i : EntryIndex) (f : SlotFields) (g : Geometry) (us : List LoadUpset) :
    (s.loadKnots i f g us).slots = s.slots := by
  rw [loadKnots_frame]

/-- An allocation that succeeds leaves the slots. -/
theorem allocate_slots {s t : State} {pr : Profile} {i : EntryIndex} (h : s.allocate pr = .ok (i, t)) :
    t.slots = s.slots := by
  rcases allocate_cases s pr with ⟨r, ha⟩ | ⟨j, -, -, ha⟩
  · rw [ha] at h
    cases h
  · rw [ha] at h
    cases h
    exact granted_slots s i pr

/-! ### Requests -/

section Requests

variable (tag : Byte) (s : State)

theorem reqCreate_slots (columns rows channels format : Byte) (label : Word) :
    (reqCreate tag columns rows channels format label s).slots = s.slots := by
  unfold reqCreate
  split
  · split
    · next ha => exact (allocate_slots ha :)
    · rfl
  · rfl

theorem reqDelete_slots (h : RawHandle) : (reqDelete tag h s).slots = s.slots := by
  unfold reqDelete
  repeat' split
  all_goals rfl

theorem reqQueryProfile_slots (h : RawHandle) : (reqQueryProfile tag h s).slots = s.slots := by
  unfold reqQueryProfile
  dsimp only
  repeat' split
  all_goals rfl

theorem reqWriteKnots_slots (h : RawHandle) (first : Word) (count : Byte) (ks : List Word) :
    (reqWriteKnots tag h first count ks s).slots = s.slots := by
  unfold reqWriteKnots
  repeat' split
  all_goals simp only [respond_slots, writeKnots_slots]

theorem reqReadKnots_slots (h : RawHandle) (first : Word) (count : Byte) :
    (reqReadKnots tag h first count s).slots = s.slots := by
  unfold reqReadKnots
  repeat' split
  all_goals simp only [respond_slots, reportDamage_slots]

theorem reqFinish_slots (h : RawHandle) (crc : Word) : (reqFinish tag h crc s).slots = s.slots := by
  unfold reqFinish
  repeat' split
  all_goals rfl

theorem reqVerify_slots (h : RawHandle) : (reqVerify tag h s).slots = s.slots := by
  unfold reqVerify
  repeat' split
  all_goals rfl

theorem reqConfigureView_slots (stream columns rows channels format : Byte) :
    (reqConfigureView tag stream columns rows channels format s).slots = s.slots := by
  unfold reqConfigureView
  repeat' split
  all_goals rfl

theorem reqQueryView_slots (stream : Byte) : (reqQueryView tag stream s).slots = s.slots := by
  unfold reqQueryView
  split <;> rfl

theorem reqAttach_slots (stream : Byte) (h : RawHandle) (key plateau : Word) :
    (reqAttach tag stream h key plateau s).slots = s.slots := by
  unfold reqAttach
  repeat' split
  all_goals rfl

theorem reqDetach_slots (stream : Byte) (h : RawHandle) : (reqDetach tag stream h s).slots = s.slots := by
  unfold reqDetach
  repeat' split
  all_goals rfl

theorem reqMove_slots (stream : Byte) (h : RawHandle) (key plateau : Word) :
    (reqMove tag stream h key plateau s).slots = s.slots := by
  unfold reqMove
  repeat' split
  all_goals rfl

theorem reqCommit_slots (mask kind : Byte) (n : Word) : (reqCommit tag mask kind n s).slots = s.slots := by
  unfold reqCommit
  split
  · split
    · rfl
    · split
      · rfl
      · rw [foldl_arm_frame]
        rfl
  · rfl

theorem reqWithdraw_slots (mask : Byte) : (reqWithdraw tag mask s).slots = s.slots := by
  unfold reqWithdraw
  split
  · rfl
  · rw [foldl_disarm_frame]
    rfl

theorem reqDiscard_slots (mask : Byte) : (reqDiscard tag mask s).slots = s.slots := by
  unfold reqDiscard
  split
  · rfl
  · rw [foldl_emptyList_frame]
    rfl

theorem reqQueryEdits_slots (stream : Byte) : (reqQueryEdits tag stream s).slots = s.slots := by
  unfold reqQueryEdits
  split <;> rfl

theorem reqPoint_slots (mask : Byte) : (reqPoint tag mask s).slots = s.slots := by
  unfold reqPoint
  split
  · rfl
  · rw [makePoint_eq_offer, foldl_offer_frame]
    rfl

theorem reqSetPoints_slots (stream source polarity prescale : Byte) :
    (reqSetPoints tag stream source polarity prescale s).slots = s.slots := by
  unfold reqSetPoints
  repeat' split
  all_goals rfl

theorem reqClearCounts_slots (mask : Byte) : (reqClearCounts tag mask s).slots = s.slots := by
  unfold reqClearCounts
  split
  · rfl
  · rw [StepKeeps.foldl_clearCount_frame]
    rfl

theorem reqSetPort_slots (port enable stallLimit : Byte) :
    (reqSetPort tag port enable stallLimit s).slots = s.slots := by
  unfold reqSetPort
  split
  · next p _ _ _ =>
    dsimp only
    split
    · exact (Serves.disablePort _ p).slots
    · rfl
  · rfl

theorem reqQueryPort_slots (port : Byte) : (reqQueryPort tag port s).slots = s.slots := by
  unfold reqQueryPort
  split <;> rfl

theorem reqProgramBaseline_slots (slot : Byte) (h : RawHandle) (key plateau : Word) :
    (reqProgramBaseline tag slot h key plateau s).slots = s.slots := by
  unfold reqProgramBaseline
  repeat' split
  all_goals rfl

theorem reqRestoreBaseline_slots (slot : Byte) : (reqRestoreBaseline tag slot s).slots = s.slots := by
  unfold reqRestoreBaseline
  split
  · rfl
  · split
    · rfl
    · rfl
    · split
      · rfl
      · next ha => exact (allocate_slots ha :)

theorem reqQuerySlot_slots (slot : Byte) : (reqQuerySlot tag slot s).slots = s.slots := by
  unfold reqQuerySlot
  split <;> rfl

theorem reqSetGroup_slots (address enable acknowledger : Byte) :
    (reqSetGroup tag address enable acknowledger s).slots = s.slots := by
  unfold reqSetGroup
  repeat' split
  all_goals rfl

theorem reqSetAlerts_slots (mask : Byte) (watermark : Word) : (reqSetAlerts tag mask watermark s).slots = s.slots := by
  unfold reqSetAlerts
  repeat' split
  all_goals rfl

/-- No request writes a slot: PROGRAM_BASELINE only begins the scan (R154). -/
theorem runRequest_slots (r : Request) : (runRequest tag r s).slots = s.slots := by
  cases r with
  | create cols rows ch f l => exact reqCreate_slots tag s cols rows ch f l
  | delete h => exact reqDelete_slots tag s h
  | queryProfile h => exact reqQueryProfile_slots tag s h
  | queryStore => rfl
  | writeKnots h first count ks => exact reqWriteKnots_slots tag s h first count ks
  | readKnots h first count => exact reqReadKnots_slots tag s h first count
  | finish h crc => exact reqFinish_slots tag s h crc
  | verify h => exact reqVerify_slots tag s h
  | configureView n cols rows ch f => exact reqConfigureView_slots tag s n cols rows ch f
  | queryView n => exact reqQueryView_slots tag s n
  | attach n h k p => exact reqAttach_slots tag s n h k p
  | detach n h => exact reqDetach_slots tag s n h
  | move n h k p => exact reqMove_slots tag s n h k p
  | commit m kind n => exact reqCommit_slots tag s m kind n
  | withdraw m => exact reqWithdraw_slots tag s m
  | discard m => exact reqDiscard_slots tag s m
  | queryEdits n => exact reqQueryEdits_slots tag s n
  | point m => exact reqPoint_slots tag s m
  | setPoints n src pol pre => exact reqSetPoints_slots tag s n src pol pre
  | clearCounts m => exact reqClearCounts_slots tag s m
  | queryPoints => rfl
  | setPort p e l => exact reqSetPort_slots tag s p e l
  | queryPort p => exact reqQueryPort_slots tag s p
  | programBaseline n h k p => exact reqProgramBaseline_slots tag s n h k p
  | restoreBaseline n => exact reqRestoreBaseline_slots tag s n
  | querySlot n => exact reqQuerySlot_slots tag s n
  | setGroup a e k => exact reqSetGroup_slots tag s a e k
  | setAlerts m w => exact reqSetAlerts_slots tag s m w
  | readAlerts => rfl

/-- A request executed on the group address does what it does on the primary one, or is refused (R174). -/
theorem runGroupRequest_slots (r : Request) : (runGroupRequest tag r s).slots = s.slots := by
  unfold runGroupRequest
  split
  · exact reqCommit_slots tag s _ _ _
  · exact reqWithdraw_slots tag s _
  · exact reqDiscard_slots tag s _
  · exact reqPoint_slots tag s _
  · exact reqClearCounts_slots tag s _
  · rfl

end Requests

/-! ### Writes to the part (R165 to R174) -/

section Writes

variable {s : State}

/-- A request row, taken by an IDLE engine or NACKed. -/
theorem onRequest_slots (len : Nat) {f : State → State} (hf : ∀ u : State, (f u).slots = u.slots) :
    (s.onRequest len f).slots = s.slots := by
  unfold State.onRequest
  split
  · exact hf _
  · rfl
  · rfl

theorem onMessage_slots (message : List Byte) {f : State → State} (hf : ∀ u : State, (f u).slots = u.slots) :
    (s.onMessage message f).slots = s.slots := by
  unfold State.onMessage
  split
  · exact hf _
  · rfl
  · rfl

theorem answerJudged_slots {run : Byte → Request → State → State} (hrun : ∀ tag r, (run tag r s).slots = s.slots)
    (j : Judged) : (s.answerJudged run j).slots = s.slots := by
  cases j with
  | format code tag => rfl
  | unknown code tag => rfl
  | taken tag r => exact hrun tag r

theorem writeRequest_slots (message : List Byte) : (s.writeRequest message).slots = s.slots := by
  unfold State.writeRequest
  split
  · rfl
  · exact onMessage_slots _ fun u => answerJudged_slots (fun tag r => runRequest_slots tag u r) _

theorem takeAbort_slots : s.takeAbort.slots = s.slots := by
  unfold State.takeAbort
  split <;> rfl

theorem primaryWrite_slots (bytes : List Byte) : (s.primaryWrite bytes).slots = s.slots := by
  unfold State.primaryWrite
  split
  · rfl
  · split
    · exact writeRequest_slots _
    · split
      · rfl
      · split
        · split
          · rfl
          · exact takeAbort_slots
        · split <;> rfl

theorem closeGroupWrite_slots (message : List Byte) : (s.closeGroupWrite message).slots = s.slots := by
  unfold State.closeGroupWrite
  split
  · exact answerJudged_slots (fun tag r => runGroupRequest_slots tag s r) _
  · rfl
  · rfl

end Writes

/-! ### The ends of checks and loads (R40, R43, R159, R161 to R163) -/

section Ends

variable {s : State}

theorem endFinish_slots (tag : Byte) (i : EntryIndex) (crc : Word) : (endFinish tag i crc s).slots = s.slots := by
  unfold endFinish
  repeat' split
  all_goals rfl

theorem endVerify_slots (tag : Byte) (i : EntryIndex) : (endVerify tag i s).slots = s.slots := by
  unfold endVerify
  repeat' split
  all_goals simp only [endJob_slots, reportDamage_slots]

theorem endRestore_slots (us : List LoadUpset) (tag : Byte) (n : Stream) (i : EntryIndex) :
    (endRestore us tag n i s).slots = s.slots := by
  unfold endRestore
  dsimp only
  repeat' split
  all_goals simp only [endJob_slots, freeEntry_slots, setEntry_slots, loadKnots_slots]

theorem beginLoad_slots (n : Stream) : (s.beginLoad n).slots = s.slots := by
  rw [beginLoad_frame]

theorem started_slots : s.started.slots = s.slots := by
  rw [started_frame]

/-- The load of a slot reads it, and leaves it as it is. -/
theorem completeLoad_slots (n : Stream) (entry : Option EntryIndex) (us : List LoadUpset) :
    (s.completeLoad n entry us).slots = s.slots := by
  unfold State.completeLoad
  split
  · rfl
  · rfl
  · next f g fmt _ =>
    split
    · rfl
    · next i =>
      have hload := loadKnots_slots s i f g us
      dsimp only
      repeat' split
      all_goals exact hload

end Ends

/-! ### Outcomes -/

/-- The rows that may write a slot (R155, R156). -/
def WritesSlots (c : Instr) : Prop :=
  c = .scanEnd ∨ (∃ r, c = .programWriteEnd r) ∨ ∃ w r, c = .programVerifyEnd w r

/-- Whatever state the outcome gives, the slots are those of s. -/
def OutcomeKeepsSlots (s : State) (o : Host.Outcome State Fault Refusal) : Prop := ∀ t, o = .next t → t.slots = s.slots

namespace OutcomeKeepsSlots

variable {s : State}

theorem of_slots {t : State} (h : t.slots = s.slots) : OutcomeKeepsSlots s (.next t) := by
  intro u hu
  cases hu
  exact h

theorem refl (s : State) : OutcomeKeepsSlots s (.next s) := of_slots rfl

theorem request (len : Nat) (tag : Byte) (r : Request) :
    OutcomeKeepsSlots s (.next (s.onRequest len (runRequest tag r))) :=
  of_slots (onRequest_slots len fun u => runRequest_slots tag u r)

theorem of_serves {t : State} (h : Serves s t) : OutcomeKeepsSlots s (.next t) := of_slots h.slots

theorem finishComplete : OutcomeKeepsSlots s (execFinishComplete s) := by
  unfold execFinishComplete
  split
  · exact of_slots (endFinish_slots _ _ _)
  · exact refl s

theorem verifyComplete : OutcomeKeepsSlots s (execVerifyComplete s) := by
  unfold execVerifyComplete
  split
  · exact of_slots (endVerify_slots _ _)
  · exact refl s

theorem restoreComplete (us : List LoadUpset) : OutcomeKeepsSlots s (execRestoreComplete us s) := by
  unfold execRestoreComplete
  split
  · exact of_slots (endRestore_slots _ _ _ _)
  · exact refl s

theorem groupWrite (address : BitVec 7) (others : OtherAcknowledgers) (bytes : List Byte) :
    OutcomeKeepsSlots s (execGroupWrite address others bytes s) := by
  unfold execGroupWrite
  split
  · dsimp only
    split
    · exact of_slots rfl
    · split
      · exact of_slots (closeGroupWrite_slots _)
      · exact of_slots rfl
  · exact refl s

theorem boundaryEdge (line : Stream) (level : LineLevel) : OutcomeKeepsSlots s (execBoundaryEdge line level s) := by
  unfold execBoundaryEdge
  split
  · exact refl s
  · refine of_slots ?_
    rw [countEdge_eq_offer, foldl_offer_frame]

theorem grant : OutcomeKeepsSlots s (execGrant s) := by
  unfold execGrant
  repeat' split
  all_goals exact of_slots rfl

theorem handover : OutcomeKeepsSlots s (execHandover s) := by
  unfold execHandover
  split
  · exact refl s
  · split
    · exact refl s
    · split
      · exact of_serves (Serves.handOver s _ _ _ _)
      · exact refl s

theorem faultReport : OutcomeKeepsSlots s (execFaultReport s) := by
  unfold execFaultReport
  split
  · exact refl s
  · split
    · exact refl s
    · split
      · exact refl s
      · refine of_slots ?_
        unfold State.reportFault
        dsimp only
        split
        · exact (Serves.finishReset _ _).slots.trans (reportDamage_slots s _)
        · exact (Serves.endHead _ _ _).slots.trans (reportDamage_slots s _)

theorem stallExpiry (p : Stream) : OutcomeKeepsSlots s (execStallExpiry p s) := by
  unfold execStallExpiry
  split
  · exact of_serves (Serves.expire s p)
  · exact refl s

theorem slotLoad (slot : Stream) (us : List LoadUpset) : OutcomeKeepsSlots s (execSlotLoad slot us s) := by
  unfold execSlotLoad
  split
  · next n entry _ =>
    have hload := completeLoad_slots (s := s) n entry us
    split
    · split
      · exact of_slots (started_slots.trans hload)
      · exact of_slots ((beginLoad_slots _).trans hload)
    · exact refl s
  · exact refl s

/-- A device reset keeps the slots (R151, R161). -/
theorem deviceReset (moment : ResetMoment) (straps : BitVec 2) :
    OutcomeKeepsSlots s (execDeviceReset moment straps s) :=
  of_slots (beginLoad_slots (s := blocksReset s moment straps) 0)

theorem received (p : Stream) (bytes : List Byte) : OutcomeKeepsSlots s (.next (s.receive p bytes)) :=
  of_serves (Serves.receive s p bytes)

/-! ### Every command -/

/-- Every row but the three of a programming leaves the slots, row by row. -/
theorem exec (c : Instr) (s : State) (hc : ¬ WritesSlots c) : OutcomeKeepsSlots s (exec c s) := by
  cases c with
  | create tag cols rows ch f l => exact request 9 tag (.create cols rows ch f l)
  | delete tag h => exact request 5 tag (.delete h)
  | queryProfile tag h => exact request 5 tag (.queryProfile h)
  | queryStore tag => exact request 3 tag .queryStore
  | writeKnots tag h first count ks =>
    exact of_slots (onMessage_slots _ fun u => reqWriteKnots_slots tag u h first count ks)
  | readKnots tag h first count => exact request 8 tag (.readKnots h first count)
  | finish tag h crc => exact request 7 tag (.finish h crc)
  | finishComplete => exact finishComplete
  | verify tag h => exact request 5 tag (.verify h)
  | verifyComplete => exact verifyComplete
  | configureView tag n cols rows ch f => exact request 8 tag (.configureView n cols rows ch f)
  | queryView tag n => exact request 4 tag (.queryView n)
  | attach tag n h k p => exact request 10 tag (.attach n h k p)
  | detach tag n h => exact request 6 tag (.detach n h)
  | move tag n h k p => exact request 10 tag (.move n h k p)
  | commit tag m kind n => exact request 7 tag (.commit m kind n)
  | withdraw tag m => exact request 4 tag (.withdraw m)
  | discard tag m => exact request 4 tag (.discard m)
  | queryEdits tag n => exact request 4 tag (.queryEdits n)
  | point tag m => exact request 4 tag (.point m)
  | setPoints tag n src pol pre => exact request 7 tag (.setPoints n src pol pre)
  | clearCounts tag m => exact request 4 tag (.clearCounts m)
  | queryPoints tag => exact request 3 tag .queryPoints
  | setPort tag p e l => exact request 6 tag (.setPort p e l)
  | queryPort tag p => exact request 4 tag (.queryPort p)
  | programBaseline tag n h k p => exact request 10 tag (.programBaseline n h k p)
  | scanEnd => exact absurd (Or.inl rfl) hc
  | programWriteEnd recorded => exact absurd (Or.inr (Or.inl ⟨_, rfl⟩)) hc
  | programVerifyEnd writesTook recorded => exact absurd (Or.inr (Or.inr ⟨_, _, rfl⟩)) hc
  | restoreBaseline tag n => exact request 4 tag (.restoreBaseline n)
  | restoreComplete us => exact restoreComplete us
  | querySlot tag n => exact request 4 tag (.querySlot n)
  | setGroup tag a e k => exact request 6 tag (.setGroup a e k)
  | setAlerts tag m w => exact request 6 tag (.setAlerts m w)
  | readAlerts tag => exact request 3 tag .readAlerts
  | unknownRequest message => exact of_slots (writeRequest_slots message)
  | requestFormatError message => exact of_slots (writeRequest_slots message)
  | busyNack message => exact of_slots (writeRequest_slots message)
  | windowSelect selector extra => exact of_slots (primaryWrite_slots _)
  | abort value extra => exact of_slots (primaryWrite_slots _)
  | groupWrite address others bytes => exact groupWrite address others bytes
  | boundaryEdge line level => exact boundaryEdge line level
  | lookup p tag key first count => exact received p _
  | credit p n => exact received p _
  | cancel p tag => exact received p _
  | linkReset p => exact received p _
  | badMessage p bytes => exact received p _
  | linkMessageHeld p m => exact received p _
  | grant => exact grant
  | handover => exact handover
  | faultReport => exact faultReport
  | stallExpiry p => exact stallExpiry p
  | deviceReset moment straps => exact deviceReset moment straps
  | slotLoad slot us => exact slotLoad slot us
  | parityFault page offset upset => exact of_slots rfl
  | idleByte p => exact received p _

end OutcomeKeepsSlots

end Sys2Proof.BaselineStore

/-! PROOFS. PROGRAM_BASELINE: its checks, and the ends of its scan, its write and its verify. -/

namespace Sys2Proof.BaselineStore

open Sys2Proof Sys2Proof.Machine Sys2Proof.Safety Sys2Proof.ProfileTable

/-! ### The checks of PROGRAM_BASELINE (R154) -/

section Checks

variable {s : State} {tag b : Byte} {n : Stream} {h : RawHandle} {i : EntryIndex} {key plateau : Word}

theorem reqProgramBaseline_range (hb : 4 ≤ b.toNat) :
    reqProgramBaseline tag b h key plateau s = s.respond tag 0x50 .range [] := by
  unfold reqProgramBaseline
  rw [streamOf_none hb]

theorem reqProgramBaseline_slotUsed (hb : StreamByte b n) (hst : s.slots[n].state ≠ .blank) :
    reqProgramBaseline tag b h key plateau s = s.respond tag 0x50 .slotUsed [] := by
  unfold reqProgramBaseline
  rw [streamOf_some hb]
  exact if_pos (fun hread => hst (reading_blank.1 hread))

/-- The checks of a BLANK slot and an allocated entry come down to the entry's state and its damaged flag. -/
theorem reqProgramBaseline_named (hb : StreamByte b n) (hst : s.slots[n].state = .blank)
    (hc : s.checkHandle h = .ok i) :
    reqProgramBaseline tag b h key plateau s =
      if s.entries[i].state ≠ .staged ∧ s.entries[i].state ≠ .live then s.respond tag 0x50 .state []
      else if s.entries[i].damaged then s.respond tag 0x50 .damaged []
      else s.startJob tag 0x50 (.program n i key plateau .scan) := by
  unfold reqProgramBaseline
  simp only [streamOf_some hb, reading_blank.2 hst, hc, ne_eq, not_true_eq_false, ↓reduceIte]

end Checks

/-! ### Every knot of an entry read (R38) -/

section Reading

variable {s : State} {i : EntryIndex}

theorem readAll_good (h : AllGood s i 0 s.entries[i].knotCount) :
    s.readAll i = .ok (knotValues s i 0 s.entries[i].knotCount) := readRun_ok h

theorem readAll_fault {j : Nat} (h : FirstFault s i 0 s.entries[i].knotCount j) : s.readAll i = .error j :=
  readRun_error h

end Reading

/-! ### The end of the scan (R155) -/

section Scan

variable {s : State} {tag : Byte} {n : Stream} {i : EntryIndex} {key plateau check : Word} {ks : List Knot}

theorem exec_scanEnd (he : s.engine = .busy tag (.program n i key plateau .scan)) :
    exec .scanEnd s = .next (endScan tag n i key plateau s) := by
  show execScanEnd s = _
  unfold execScanEnd
  rw [he]

theorem exec_scanEnd_off (hne : ∀ tag n i key plateau, s.engine ≠ .busy tag (.program n i key plateau .scan)) :
    exec .scanEnd s = .next s := by
  show execScanEnd s = _
  unfold execScanEnd
  split
  · next tag n i key plateau he => exact absurd he (hne tag n i key plateau)
  · rfl

theorem endScan_fault {j : Nat} (hread : s.readAll i = .error j) :
    endScan tag n i key plateau s = completed (damageReported s i) tag 0x50 .parity (wordOfNat j) := by
  unfold endScan
  rw [hread, reportDamage_eq]
  rfl

theorem endScan_mismatch (hread : s.readAll i = .ok ks) (hv : s.entries[i].checkValue = some check)
    (hne : crc16 ks ≠ check) : endScan tag n i key plateau s =
      completed (damageReported s i) tag 0x50 .checkMismatch (wordBytes (crc16 ks) ++ wordBytes check) := by
  have hno : s.entries[i].checkValue ≠ some (crc16 ks) := by
    rw [hv]
    exact fun e => hne (Option.some.inj e).symm
  unfold endScan
  rw [hread]
  dsimp only
  rw [if_pos hno, hv, reportDamage_eq]
  rfl

/-- Past the check value, a channel whose span is too wide refuses the profile. -/
theorem endScan_span {c span : Nat} (hread : s.readAll i = .ok ks) (hv : s.entries[i].checkValue = some (crc16 ks))
    (hspan : excessSpan s.entries[i].channels ks = some (c, span)) :
    endScan tag n i key plateau s = completed s tag 0x50 .range ([byteOf c] ++ wordOfNat span) := by
  unfold endScan
  rw [hread]
  dsimp only
  rw [if_neg (not_not.2 hv), hspan]
  rfl

theorem endScan_good (hread : s.readAll i = .ok ks) (hv : s.entries[i].checkValue = some (crc16 ks))
    (hspan : excessSpan s.entries[i].channels ks = none) :
    endScan tag n i key plateau s =
      { s with slots := s.slots.set n { state := .programming, fields := none }
               engine := .busy tag (.program n i key plateau (.write (basesOf s.entries[i].channels ks))) } := by
  unfold endScan
  rw [hread]
  dsimp only
  rw [if_neg (not_not.2 hv), hspan]
  rfl

theorem excessSpan_eq_none {channels : Nat} (h : ∀ c, c < channels → channelSpan channels c ks ≤ 255) :
    excessSpan channels ks = none := by
  have hfind : (List.range channels).find? (fun c => 255 < channelSpan channels c ks) = none := by
    refine List.find?_eq_none.2 fun c hc => ?_
    have hle := h c (List.mem_range.1 hc)
    simpa using hle
  unfold excessSpan
  rw [hfind]
  rfl

theorem excessSpan_eq_some {channels c : Nat} (hc : c < channels) (hspan : 255 < channelSpan channels c ks)
    (hbefore : ∀ c', c' < c → channelSpan channels c' ks ≤ 255) :
    excessSpan channels ks = some (c, channelSpan channels c ks) := by
  have hfind : (List.range channels).find? (fun c => 255 < channelSpan channels c ks) = some c := by
    rw [List.find?_range_eq_some]
    refine ⟨by simpa using hspan, List.mem_range.2 hc, fun c' hc' => ?_⟩
    simpa using hbefore c' hc'
  unfold excessSpan
  rw [hfind]
  rfl

theorem channels_eq {e : Entry} {pr : Profile} (h : e.profile = some pr) : e.channels = pr.geometry.channels := by
  unfold Entry.channels
  rw [h]

end Scan

/-- Settles O50: the checks in their order, then the scan by what it reads, its CRC and its spans. -/
theorem programBaselineScans : Obligations.ProgramBaselineScans := by
  unfold Obligations.ProgramBaselineScans
  refine ⟨?checks, ?scan, fun s => exec_scanEnd_off⟩
  case checks =>
    intro s tag b h key plateau hidle
    have hrun : exec (.programBaseline tag b h key plateau) s =
        .next (reqProgramBaseline tag b h key plateau (taken s 10)) := next_onRequest hidle 10 _
    dsimp only
    rw [hrun]
    refine ⟨fun hb => congrArg _ (reqProgramBaseline_range hb), fun n hb => ⟨fun hused => ?_, fun hblank => ?_⟩⟩
    · exact congrArg _ (reqProgramBaseline_slotUsed (s := taken s 10) hb hused)
    · refine ⟨fun r hr => ?_, fun i hi => ?_⟩
      · exact congrArg _ (reqProgramBaseline_error hb (reading_blank.2 hblank) (taken_checkHandle_error hr))
      · rw [reqProgramBaseline_named (s := taken s 10) hb hblank (taken_checkHandle_ok hi)]
        refine ⟨fun hstaged hlive => congrArg _ (if_pos ⟨hstaged, hlive⟩), fun hst => ?_⟩
        rw [if_neg (fun hno => hst.elim hno.1 hno.2)]
        exact ⟨fun hd => congrArg _ (if_pos hd), fun hd => congrArg _ (if_neg (Bool.not_eq_true _ ▸ hd))⟩
  case scan =>
    intro s tag n i key plateau check pr he hv hpr
    dsimp only
    rw [exec_scanEnd he]
    refine ⟨fun j hfault => congrArg _ (endScan_fault (readAll_fault hfault)), fun hgood => ?_⟩
    have hread := readAll_good hgood
    refine ⟨fun hne => congrArg _ (endScan_mismatch hread hv hne), fun hcrc => ?_⟩
    have hv' : s.entries[i].checkValue = some (crc16 (knotValues s i 0 s.entries[i].knotCount)) := by rw [hv, hcrc]
    rw [← channels_eq hpr]
    exact ⟨fun c hc hspan hbefore => congrArg _ (endScan_span hread hv' (excessSpan_eq_some hc hspan hbefore)),
      fun hspans => congrArg _ (endScan_good hread hv' (excessSpan_eq_none hspans))⟩

/-! ### The end of the write (R156) -/

section Write

variable {s : State} {tag : Byte} {n : Stream} {i : EntryIndex} {key plateau check : Word} {bases ks : List Knot}
  {recorded : Bool}

theorem exec_programWriteEnd (he : s.engine = .busy tag (.program n i key plateau (.write bases))) :
    exec (.programWriteEnd recorded) s = .next (endWrite recorded tag n i key plateau bases s) := by
  show execProgramWriteEnd recorded s = _
  unfold execProgramWriteEnd
  rw [he]

theorem exec_programWriteEnd_off
    (hne : ∀ tag n i key plateau bases, s.engine ≠ .busy tag (.program n i key plateau (.write bases))) :
    exec (.programWriteEnd recorded) s = .next s := by
  show execProgramWriteEnd recorded s = _
  unfold execProgramWriteEnd
  split
  · next tag n i key plateau bases he => exact absurd he (hne tag n i key plateau bases)
  · rfl

theorem spoil_eq (recorded : Bool) :
    Slot.spoil recorded = { state := if recorded then .spoiled else .programming, fields := none } := by
  cases recorded <;> rfl

theorem endWrite_fault {j : Nat} (hread : s.readAll i = .error j) :
    endWrite recorded tag n i key plateau bases s = completed
      { damageReported s i with
          slots := s.slots.set n { state := if recorded then .spoiled else .programming, fields := none } }
      tag 0x50 .parity (wordOfNat j) := by
  have hslots := reportDamage_slots s i
  unfold endWrite
  rw [hread]
  dsimp only
  rw [State.setSlot, hslots, reportDamage_eq, spoil_eq]
  rfl

theorem endWrite_good {pr : Profile} (hread : s.readAll i = .ok ks) (hv : s.entries[i].checkValue = some check)
    (hpr : s.entries[i].profile = some pr) :
    endWrite recorded tag n i key plateau bases s =
      { s with
          slots := s.slots.set n
            { state := .programming, fields := some (slotFieldsOf pr check key plateau bases ks) }
          engine := .busy tag (.program n i key plateau (.verify bases)) } := by
  unfold endWrite
  rw [hread]
  dsimp only
  rw [hv, hpr]
  rfl

end Write

/-! ### The end of the slot verify (R156) -/

section Verify

variable {s : State} {tag : Byte} {n : Stream} {i : EntryIndex} {key plateau : Word} {bases : List Knot}
  {f : SlotFields} {took recorded : Bool}

theorem exec_programVerifyEnd (he : s.engine = .busy tag (.program n i key plateau (.verify bases))) :
    exec (.programVerifyEnd took recorded) s = .next (endProgram took recorded tag n bases s) := by
  show execProgramVerifyEnd took recorded s = _
  unfold execProgramVerifyEnd
  rw [he]

theorem exec_programVerifyEnd_off
    (hne : ∀ tag n i key plateau bases, s.engine ≠ .busy tag (.program n i key plateau (.verify bases))) :
    exec (.programVerifyEnd took recorded) s = .next s := by
  show execProgramVerifyEnd took recorded s = _
  unfold execProgramVerifyEnd
  split
  · next tag n i key plateau bases he => exact absurd he (hne tag n i key plateau bases)
  · rfl

/-- The bytes of the grid that they give. -/
theorem gridBytes_of_geometryOf {c r ch : Byte} {g : Geometry} (h : geometryOf c r ch = some g) :
    GridBytes c r ch g := by
  refine ⟨geometryOk_of_geometryOf h, ?_⟩
  unfold geometryOf at h
  split at h
  · cases h
    exact ⟨rfl, rfl, rfl⟩
  · cases h

theorem fields_verify_iff {f : SlotFields} : f.verifies = true ↔
    ∃ g, GridBytes f.columns f.rows f.channels g ∧
      crc16 (decompress g.channels (g.columns * g.rows * g.channels) f.bases f.deltas) = f.crc := by
  unfold SlotFields.verifies
  constructor
  · intro h
    split at h
    · next g hg => exact ⟨g, gridBytes_of_geometryOf hg, of_decide_eq_true h⟩
    · cases h
  · rintro ⟨g, hg, hcrc⟩
    rw [geometryOf_some hg]
    exact decide_eq_true hcrc

theorem slot_verifies {x : Slot} (h : x.fields = some f) : x.verifies = f.verifies := by
  unfold Slot.verifies
  rw [h]

theorem endProgram_ok (hf : s.slots[n].fields = some f) (hv : f.verifies = true) :
    endProgram true true tag n bases s = completed
      { s with slots := s.slots.set n { state := .programmed, fields := some f } } tag 0x50 .ok
      ([byteOf n.val] ++ wordBytes f.crc ++ bases.flatMap knotBytes) := by
  unfold endProgram
  rw [slot_verifies hf, hv]
  dsimp only [Bool.and_self, ↓reduceIte]
  rw [hf]
  rfl

theorem endProgram_failed (hf : s.slots[n].fields = some f)
    (hno : ¬ f.verifies = true ∨ took = false ∨ recorded = false) :
    endProgram took recorded tag n bases s = completed
      { s with slots := s.slots.set n { state := if recorded then .spoiled else .programming, fields := none } }
      tag 0x50 .programFailed [] := by
  have hfails : ¬ (took && recorded && f.verifies) = true := by
    rw [Bool.and_eq_true, Bool.and_eq_true]
    rintro ⟨⟨rfl, rfl⟩, hv⟩
    rcases hno with hno | hno | hno
    · exact hno hv
    · cases hno
    · cases hno
  unfold endProgram
  rw [slot_verifies hf, if_neg hfails, spoil_eq]
  rfl

end Verify

/-- Settles O51: the write by its second read, the verify by the fields and by what is recorded. -/
theorem programBaselineWritesAndVerifies : Obligations.ProgramBaselineWritesAndVerifies := by
  unfold Obligations.ProgramBaselineWritesAndVerifies
  refine ⟨?write, ?verify, fun s took recorded => ⟨exec_programWriteEnd_off, exec_programVerifyEnd_off⟩⟩
  case write =>
    intro s tag n i key plateau check bases pr recorded he hv hpr
    rw [exec_programWriteEnd he]
    exact ⟨fun j hfault => congrArg _ (endWrite_fault (readAll_fault hfault)),
      fun hgood => congrArg _ (endWrite_good (readAll_good hgood) hv hpr)⟩
  case verify =>
    intro s tag n i key plateau bases f took recorded he hf
    dsimp only
    rw [exec_programVerifyEnd he, ← fields_verify_iff]
    refine ⟨?_, fun hno => congrArg _ (endProgram_failed hf hno)⟩
    rintro hv rfl rfl
    exact congrArg _ (endProgram_ok hf hv)

end Sys2Proof.BaselineStore

/-! PROOFS. The moves of a slot's stored state: along the table of R152, by the programming's own events. -/

namespace Sys2Proof.BaselineStore

open Sys2Proof Sys2Proof.Machine Sys2Proof.Safety Sys2Proof.ProfileTable

/-! ### The table of R152 -/

/-- A slot's stored state goes from x to y in a step of command c (R152). -/
def SlotMove (c : Option Instr) (x y : SlotState) : Prop :=
  y = x ∨ (x = .blank ∧ y = .programming ∧ c = some .scanEnd) ∨
    (x = .programming ∧ y = .programmed ∧ ∃ w r, c = some (.programVerifyEnd w r)) ∨
    (x = .programming ∧ y = .spoiled ∧
      ((∃ r, c = some (.programWriteEnd r)) ∨ ∃ w r, c = some (.programVerifyEnd w r)))

/-- Every slot moves along the table. -/
def SlotsMove (c : Option Instr) (s t : State) : Prop := ∀ n : Stream, SlotMove c s.slots[n].state t.slots[n].state

section Moves

variable {c : Option Instr} {s t : State} {n : Stream} {x : Slot}

theorem SlotsMove.of_slots (h : t.slots = s.slots) : SlotsMove c s t := fun n => Or.inl (by rw [h])

/-- One slot written, along the table. -/
theorem SlotsMove.of_set (ht : t.slots = (s.setSlot n x).slots) (h : SlotMove c s.slots[n].state x.state) :
    SlotsMove c s t := by
  intro k
  rw [ht]
  by_cases hk : k = n
  · subst hk
    rw [setSlot_get_same]
    exact h
  · rw [setSlot_get_other _ _ _ _ hk]
    exact Or.inl rfl

/-- A slot that programming spoils, or leaves PROGRAMMING where that cannot be recorded. -/
theorem SlotMove.spoil (hst : s.slots[n].state = .programming)
    (hc : (∃ r, c = some (.programWriteEnd r)) ∨ ∃ w r, c = some (.programVerifyEnd w r)) (recorded : Bool) :
    SlotMove c s.slots[n].state (Slot.spoil recorded).state := by
  cases recorded with
  | false => exact Or.inl hst.symm
  | true => exact Or.inr (Or.inr (Or.inr ⟨hst, rfl, hc⟩))

end Moves

/-! ### The three events of a programming -/

section Programming

variable {s : State} {tag : Byte} {n : Stream} {i : EntryIndex} {key plateau : Word} {bases : List Knot}

/-- The slot that is scanned for is BLANK, and one that is written or verified is PROGRAMMING. -/
theorem programming_slot {stage : ProgramStage} (hr : RecordLaw s)
    (he : s.engine = .busy tag (.program n i key plateau stage)) :
    (stage = .scan → s.slots[n].state = .blank) ∧ (stage ≠ .scan → s.slots[n].state = .programming) := by
  have hengine := (recordLaw_iff.1 hr).2
  unfold EngineLaw at hengine
  rw [he] at hengine
  obtain ⟨-, hslot⟩ := hengine
  exact hslot

theorem endScan_moves (hst : s.slots[n].state = .blank) :
    SlotsMove (some .scanEnd) s (endScan tag n i key plateau s) := by
  unfold endScan
  split
  · exact SlotsMove.of_slots (reportDamage_slots s i)
  · split
    · exact SlotsMove.of_slots (reportDamage_slots s i)
    · split
      · exact SlotsMove.of_slots rfl
      · exact SlotsMove.of_set (x := { state := .programming, fields := none }) rfl (Or.inr (Or.inl ⟨hst, rfl, rfl⟩))

theorem endWrite_moves (hst : s.slots[n].state = .programming) (recorded : Bool) :
    SlotsMove (some (.programWriteEnd recorded)) s (endWrite recorded tag n i key plateau bases s) := by
  unfold endWrite
  split
  · refine SlotsMove.of_set (x := Slot.spoil recorded) ?_ (SlotMove.spoil hst (Or.inl ⟨_, rfl⟩) recorded)
    simp only [endJob_slots, setSlot_slots, reportDamage_slots]
  · exact SlotsMove.of_set (x := { state := .programming, fields := _ }) rfl (Or.inl hst.symm)

theorem endProgram_moves (hst : s.slots[n].state = .programming) (took recorded : Bool) :
    SlotsMove (some (.programVerifyEnd took recorded)) s (endProgram took recorded tag n bases s) := by
  unfold endProgram
  split
  · exact SlotsMove.of_set (x := { s.slots[n] with state := .programmed }) rfl
      (Or.inr (Or.inr (Or.inl ⟨hst, rfl, _, _, rfl⟩)))
  · exact SlotsMove.of_set (x := Slot.spoil recorded) rfl (SlotMove.spoil hst (Or.inr ⟨_, _, rfl⟩) recorded)

end Programming

section Rows

variable {s t : State}

theorem scanEnd_moves (hr : RecordLaw s) (h : execScanEnd s = .next t) : SlotsMove (some .scanEnd) s t := by
  unfold execScanEnd at h
  split at h <;> cases h
  · next he => exact endScan_moves ((programming_slot hr he).1 rfl)
  · exact SlotsMove.of_slots rfl

theorem programWriteEnd_moves {recorded : Bool} (hr : RecordLaw s) (h : execProgramWriteEnd recorded s = .next t) :
    SlotsMove (some (.programWriteEnd recorded)) s t := by
  unfold execProgramWriteEnd at h
  split at h <;> cases h
  · next he => exact endWrite_moves ((programming_slot hr he).2 ProgramStage.noConfusion) recorded
  · exact SlotsMove.of_slots rfl

theorem programVerifyEnd_moves {took recorded : Bool} (hr : RecordLaw s)
    (h : execProgramVerifyEnd took recorded s = .next t) : SlotsMove (some (.programVerifyEnd took recorded)) s t := by
  unfold execProgramVerifyEnd at h
  split at h <;> cases h
  · next he => exact endProgram_moves ((programming_slot hr he).2 ProgramStage.noConfusion) took recorded
  · exact SlotsMove.of_slots rfl

/-- What a command does to the slots of a part that keeps its laws. -/
theorem exec_moves {c : Instr} (hr : RecordLaw s) (h : exec c s = .next t) : SlotsMove (some c) s t := by
  by_cases hc : WritesSlots c
  · rcases hc with rfl | ⟨recorded, rfl⟩ | ⟨took, recorded, rfl⟩
    · exact scanEnd_moves hr h
    · exact programWriteEnd_moves hr h
    · exact programVerifyEnd_moves hr h
  · exact SlotsMove.of_slots (OutcomeKeepsSlots.exec c s hc t h)

end Rows

/-! ### One step -/

theorem step_slots {s t : State} (h : step s = .next t)
    (hc : ∀ c, s.pending.head? = some c → ¬ WritesSlots c) : t.slots = s.slots := by
  unfold step at h
  cases hp : s.pending with
  | nil =>
    rw [hp] at h
    cases h
    exact (Serves.tick s).slots
  | cons c rest =>
    rw [hp] at h
    exact OutcomeKeepsSlots.exec c { s with pending := rest } (hc c (by rw [hp]; rfl)) t h

theorem step_moves {s t : State} (hr : RecordLaw s) (h : step s = .next t) : SlotsMove s.pending.head? s t := by
  cases hp : s.pending with
  | nil =>
    refine SlotsMove.of_slots (step_slots h fun c hc => ?_)
    rw [hp] at hc
    cases hc
  | cons c rest =>
    unfold step at h
    rw [hp] at h
    have htaken : RecordLaw { s with pending := rest } :=
      recordLaw_congr rfl rfl rfl rfl (engineLaw_congr rfl rfl rfl rfl rfl) hr
    exact exec_moves (s := { s with pending := rest }) htaken h

/-! ### Slots read as SPOILED (R152) -/

theorem reading_programming {x : Slot} (h : x.state = .programming) : x.reading = .spoiled .programming := by
  unfold Slot.reading
  rw [h]

theorem reading_spoiled {x : Slot} (h : x.state = .spoiled) : x.reading = .spoiled .spoiled := by
  unfold Slot.reading
  rw [h]

/-- A PROGRAMMED slot whose stored bytes give no grid, or no format. -/
theorem reading_badGrid {x : Slot} {f : SlotFields} (h : x.state = .programmed) (hf : x.fields = some f)
    (hbad : geometryOf f.columns f.rows f.channels = none ∨ formatOf f.format = none) :
    x.reading = .spoiled .badGrid := by
  unfold Slot.reading
  rw [h, hf]
  dsimp only
  split
  · next g fmt hg hfmt =>
    rw [hg, hfmt] at hbad
    rcases hbad with hbad | hbad <;> cases hbad
  · rfl

/-- Settles O11: the slots stay but in the three events of a programming, and those write the slot they program. -/
theorem slotStatesFollowTheirTable : Obligations.SlotStatesFollowTheirTable := by
  unfold Obligations.SlotStatesFollowTheirTable
  refine ⟨fun s t n hr h => step_moves hr h n, ?others, fun x => reading_programming,
    fun x => reading_spoiled, ?badGrid⟩
  case others =>
    intro s t h hscan hwrite hverify
    refine step_slots h ?_
    rintro c hc (rfl | ⟨r, rfl⟩ | ⟨w, r, rfl⟩)
    · exact hscan hc
    · exact hwrite r hc
    · exact hverify w r hc
  case badGrid =>
    intro x f hst hf hbad
    exact reading_badGrid hst hf (hbad.imp geometryOf_none formatOf_none)

end Sys2Proof.BaselineStore

/-! PROOFS. Compression by channel: the bases and spans of a profile, and what decompression gives back. -/

namespace Sys2Proof.BaselineStore

open Sys2Proof Sys2Proof.Machine

/-! ### The knots of a channel (R151) -/

theorem mem_channelKnots {channels c : Nat} {ks : List Knot} {v : Knot} :
    v ∈ channelKnots channels c ks ↔ ∃ j : Nat, ks[j]? = some v ∧ j % channels = c := by
  unfold channelKnots
  simp only [List.mem_map, List.mem_filter, decide_eq_true_eq]
  constructor
  · rintro ⟨⟨w, j⟩, ⟨hmem, hj⟩, rfl⟩
    exact ⟨j, List.mem_zipIdx_iff_getElem?.1 hmem, hj⟩
  · rintro ⟨j, hget, hj⟩
    exact ⟨(v, j), ⟨List.mem_zipIdx_iff_getElem?.2 hget, hj⟩, rfl⟩

/-- A channel below the number of channels and of knots holds the knot of its own index. -/
theorem channelKnots_ne_nil {channels c : Nat} {ks : List Knot} (hc : c < channels) (hks : c < ks.length) :
    channelKnots channels c ks ≠ [] :=
  List.ne_nil_of_mem (mem_channelKnots.2 ⟨c, List.getElem?_eq_getElem hks, Nat.mod_eq_of_lt hc⟩)

/-! ### The smallest and the largest knot (R153) -/

/-- A fold that keeps the better of two knots ends with one of them, and none of them is better. -/
theorem foldl_best {better : Knot → Knot → Prop} [DecidableRel better] (hasymm : ∀ k m, better k m → ¬ better m k)
    (htrans : ∀ a b c, ¬ better a b → ¬ better b c → ¬ better a c) (l : List Knot) (m : Knot) :
    l.foldl (fun m k => if better k m then k else m) m ∈ m :: l ∧
      ∀ v ∈ m :: l, ¬ better v (l.foldl (fun m k => if better k m then k else m) m) := by
  induction l generalizing m with
  | nil => exact ⟨List.mem_cons_self, List.forall_mem_singleton.2 fun h => hasymm m m h h⟩
  | cons k l ih =>
    rw [List.foldl_cons]
    split
    · next hbetter =>
      obtain ⟨hmem, hbest⟩ := ih k
      refine ⟨List.mem_cons_of_mem m hmem, List.forall_mem_cons.2 ⟨?_, hbest⟩⟩
      exact htrans m k _ (hasymm k m hbetter) (hbest k List.mem_cons_self)
    · next hnot =>
      obtain ⟨hmem, hbest⟩ := ih m
      obtain ⟨hm, hl⟩ := List.forall_mem_cons.1 hbest
      refine ⟨?_, List.forall_mem_cons.2 ⟨hm, List.forall_mem_cons.2 ⟨htrans k m _ hnot hm, hl⟩⟩⟩
      exact List.cons_subset_cons m (List.subset_cons_self k l) hmem

theorem smallestKnot_spec (l : List Knot) :
    smallestKnot l ∈ 4095 :: l ∧ ∀ v ∈ (4095 : Knot) :: l, ¬ v.toNat < (smallestKnot l).toNat :=
  foldl_best (better := fun k m => k.toNat < m.toNat) (fun _ _ => Nat.lt_asymm) (fun _ _ _ _ _ => by omega) l 4095

theorem largestKnot_spec (l : List Knot) :
    largestKnot l ∈ 0 :: l ∧ ∀ v ∈ (0 : Knot) :: l, ¬ (largestKnot l).toNat < v.toNat :=
  foldl_best (better := fun k m => m.toNat < k.toNat) (fun _ _ => Nat.lt_asymm) (fun _ _ _ _ _ => by omega) l 0

theorem smallestKnot_le {l : List Knot} {v : Knot} (h : v ∈ l) : (smallestKnot l).toNat ≤ v.toNat :=
  Nat.not_lt.1 ((smallestKnot_spec l).2 v (List.mem_cons_of_mem _ h))

theorem le_largestKnot {l : List Knot} {v : Knot} (h : v ∈ l) : v.toNat ≤ (largestKnot l).toNat :=
  Nat.not_lt.1 ((largestKnot_spec l).2 v (List.mem_cons_of_mem _ h))

/-- The fold's first value, 4095, is above no knot, so it is the result only where it is a knot. -/
theorem smallestKnot_mem {l : List Knot} (h : l ≠ []) : smallestKnot l ∈ l := by
  rcases List.mem_cons.1 (smallestKnot_spec l).1 with heq | hmem
  · obtain ⟨v, hv⟩ := List.exists_mem_of_ne_nil l h
    have hle := smallestKnot_le hv
    have heqv : smallestKnot l = v := by
      rw [heq] at hle ⊢
      bv_omega
    rw [heqv]
    exact hv
  · exact hmem

theorem largestKnot_mem {l : List Knot} (h : l ≠ []) : largestKnot l ∈ l := by
  rcases List.mem_cons.1 (largestKnot_spec l).1 with heq | hmem
  · obtain ⟨v, hv⟩ := List.exists_mem_of_ne_nil l h
    have hle := le_largestKnot hv
    have heqv : largestKnot l = v := by
      rw [heq] at hle ⊢
      bv_omega
    rw [heqv]
    exact hv
  · exact hmem

/-! ### Bases and spans (R153) -/

section Channel

variable {channels c : Nat} {ks : List Knot}

theorem basesOf_getElem? (hc : c < channels) :
    (basesOf channels ks)[c]? = some (smallestKnot (channelKnots channels c ks)) := by
  unfold basesOf
  rw [List.getElem?_map, List.getElem?_range hc]
  rfl

theorem sub_le_channelSpan {u v : Knot} (hu : u ∈ channelKnots channels c ks) (hv : v ∈ channelKnots channels c ks) :
    u.toNat - v.toNat ≤ channelSpan channels c ks :=
  tsub_le_tsub (le_largestKnot hu) (smallestKnot_le hv)

end Channel

/-! ### Decompression (R153) -/

theorem decompress_getElem? {channels count j : Nat} {bases : List Knot} {deltas : List Byte} {b : Knot} {d : Byte}
    (hj : j < count) (hb : bases[j % channels]? = some b) (hd : deltas[j]? = some d) :
    (decompress channels count bases deltas)[j]? = some (b + BitVec.ofNat 12 d.toNat) := by
  unfold decompress
  rw [List.getElem?_map, List.getElem?_range hj, Option.map_some, List.getD_eq_getElem?_getD, hb,
    List.getD_eq_getElem?_getD, hd]
  rfl

theorem deltasOf_getElem? {channels j : Nat} {bases ks : List Knot} {b v : Knot}
    (hv : ks[j]? = some v) (hb : bases[j % channels]? = some b) :
    (deltasOf channels bases ks)[j]? = some (BitVec.ofNat 8 (v - b).toNat) := by
  unfold deltasOf
  rw [List.getElem?_map, List.getElem?_zipIdx, hv, Option.map_some, Option.map_some, List.getD_eq_getElem?_getD,
    Nat.zero_add, hb]
  rfl

/-- A base and the delta of a knot that lies at most 255 above it give the knot back. -/
theorem base_add_delta {b v : Knot} (hle : b.toNat ≤ v.toNat) (hspan : v.toNat - b.toNat ≤ 255) :
    b + BitVec.ofNat 12 (BitVec.ofNat 8 (v - b).toNat).toNat = v := by
  have hsub : (v - b).toNat = v.toNat - b.toNat := BitVec.toNat_sub_of_le hle
  have hdelta : (BitVec.ofNat 8 (v - b).toNat).toNat = v.toNat - b.toNat := by
    rw [BitVec.toNat_ofNat, hsub]
    exact Nat.mod_eq_of_lt (by omega)
  rw [hdelta]
  bv_omega

/-- Every knot of a profile with no span above 255 comes back from its base and its delta. -/
theorem decompress_compress {channels : Nat} {ks : List Knot} (hchannels : 1 ≤ channels)
    (hspans : ∀ c, c < channels → channelSpan channels c ks ≤ 255) :
    decompress channels ks.length (basesOf channels ks) (deltasOf channels (basesOf channels ks) ks) = ks := by
  refine List.ext_getElem? fun j => ?_
  by_cases hj : j < ks.length
  · have hc : j % channels < channels := Nat.mod_lt j hchannels
    have hv : ks[j]? = some ks[j] := List.getElem?_eq_getElem hj
    have hb := basesOf_getElem? (ks := ks) hc
    have hknot : ks[j] ∈ channelKnots channels (j % channels) ks := mem_channelKnots.2 ⟨j, hv, rfl⟩
    have hbase := smallestKnot_mem (List.ne_nil_of_mem hknot)
    have hspan := (sub_le_channelSpan hknot hbase).trans (hspans _ hc)
    rw [decompress_getElem? hj hb (deltasOf_getElem? hv hb), base_add_delta (smallestKnot_le hknot) hspan, hv]
  · have hlen : (decompress channels ks.length (basesOf channels ks)
        (deltasOf channels (basesOf channels ks) ks)).length = ks.length := by
      unfold decompress
      rw [List.length_map, List.length_range]
    rw [List.getElem?_eq_none (Nat.not_lt.1 hj), List.getElem?_eq_none (hlen.trans_le (Nat.not_lt.1 hj))]

/-- Settles O52: a channel's smallest and largest knot are knots of it, and no delta of a narrow span is cut off. -/
theorem compressionGivesBackEveryKnot : Obligations.CompressionGivesBackEveryKnot := by
  unfold Obligations.CompressionGivesBackEveryKnot
  refine ⟨?channel, fun channels ks => decompress_compress, ?knot⟩
  case channel =>
    intro channels ks c hc hks
    have hne := channelKnots_ne_nil hc hks
    obtain ⟨k, hk, hkc⟩ := mem_channelKnots.1 (smallestKnot_mem hne)
    obtain ⟨j, hj, hjc⟩ := mem_channelKnots.1 (largestKnot_mem hne)
    refine ⟨⟨k, _, hk, hkc, basesOf_getElem? hc, ?_⟩, ⟨j, k, _, _, hj, hk, hjc, hkc, rfl⟩, ?_⟩
    · exact fun k' v hv hvc => smallestKnot_le (mem_channelKnots.2 ⟨k', hv, hvc⟩)
    · exact fun j' k' u v hu hv huc hvc =>
        sub_le_channelSpan (mem_channelKnots.2 ⟨j', hu, huc⟩) (mem_channelKnots.2 ⟨k', hv, hvc⟩)
  case knot =>
    intro channels count j bases deltas b d hj hb hd
    refine ⟨_, decompress_getElem? hj hb hd, ?_⟩
    rw [BitVec.toNat_add, BitVec.toNat_ofNat, Nat.add_mod_mod]

end Sys2Proof.BaselineStore

/-! PROOFS. SET_GROUP, SET_ALERTS and READ_ALERTS, ALERT_N, and the STATUS window. -/

namespace Sys2Proof.ManagementPort

open Sys2Proof Sys2Proof.Machine Sys2Proof.Safety Sys2Proof.ProfileTable

/-! ### SET_GROUP (R172) -/

theorem groupAddressOk_iff {a : Byte} :
    groupAddressOk a = true ↔ 0x08 ≤ a.toNat ∧ a.toNat ≤ 0x77 ∧ (a.toNat < 0x2C ∨ 0x2F < a.toNat) := by
  unfold groupAddressOk
  simp only [Bool.and_eq_true, Bool.not_eq_true', Bool.and_eq_false_iff, decide_eq_true_eq, decide_eq_false_iff_not]
  omega

theorem eq_zero_or_one_of_toNat_le {b : Byte} (h : b.toNat ≤ 1) : b = 0 ∨ b = 1 := by bv_omega

section Group

variable {s : State} {tag a e k : Byte}

/-- An operand out of range, whichever it is (R172, R181). -/
theorem reqSetGroup_range (h : groupAddressOk a = false ∨ 2 ≤ e.toNat ∨ 2 ≤ k.toNat) :
    reqSetGroup tag a e k s = s.respond tag 0x60 .range [] := by
  unfold reqSetGroup
  rcases h with ha | he | hk
  · split
    · exact if_neg (by rw [ha]; exact Bool.false_ne_true)
    · rfl
  · rw [LookupLink.flagOf_none he]
  · rw [LookupLink.flagOf_none hk]
    cases flagOf e <;> rfl

theorem reqSetGroup_ok (ha : groupAddressOk a = true) (he : e.toNat ≤ 1) (hk : k.toNat ≤ 1) :
    reqSetGroup tag a e k s =
      { s with groupAddress := a.setWidth 7, groupEnabled := decide (e = 1), acknowledger := decide (k = 1) }.respond
        tag 0x60 .ok [a, e, k] := by
  unfold reqSetGroup
  rw [LookupLink.flagOf_some (eq_zero_or_one_of_toNat_le he),
    LookupLink.flagOf_some (eq_zero_or_one_of_toNat_le hk)]
  dsimp only
  rw [if_pos ha, BitVec.ofNat_toNat]

end Group

/-! ### SET_ALERTS and READ_ALERTS (R177, R178) -/

section Alerts

variable {s : State} {tag m : Byte} {w : Word}

theorem reqSetAlerts_range (h : 16 ≤ m.toNat ∨ 512 < w.toNat) :
    reqSetAlerts tag m w s = s.respond tag 0x61 .range [] := by
  unfold reqSetAlerts
  rcases h with hm | hw
  · rw [maskOf_none hm]
  · split
    · rfl
    · exact if_pos hw

theorem reqSetAlerts_ok {mask : StreamMask} (hm : MaskByte m mask) (hw : w.toNat ≤ 512) :
    reqSetAlerts tag m w s =
      { s with appliedMask := mask, watermark := w.toNat }.respond tag 0x61 .ok ([m] ++ wordBytes w) := by
  unfold reqSetAlerts
  rw [maskOf_some hm]
  exact if_neg (Nat.not_lt.2 hw)

end Alerts

/-- The kind and subject bytes of an alert (section 11.1). -/
theorem alert_bytes_eq (a : Alert) : a.bytes = match a with
    | .applied n => [0x01, byteOf n.val]
    | .damaged i => [0x02, byteOf i.val]
    | .poolLow => [0x03, 0x00]
    | .baselineBad n => [0x04, byteOf n.val]
    | .groupMissed => [0x05, 0x00]
    | .started => [0x06, 0x00] := by
  cases a <;> rfl

/-! ### ALERT_N and STATUS (R170, R179) -/

theorem alertLow_iff {s : State} : s.alertLow = true ↔ s.alerts ≠ [] := by
  unfold State.alertLow
  rw [Bool.not_eq_true', List.isEmpty_eq_false_iff]

theorem alertFlag_eq (s : State) : (if s.alertLow then 1 else 0 : Byte) = if s.alerts = [] then 0 else 1 := by
  rw [if_congr alertLow_iff rfl rfl, ite_not]

/-- Settles O56: each request's operands in range or not, and the alert set empty or not. -/
theorem settingsAndAlertRequests : Obligations.SettingsAndAlertRequests := by
  unfold Obligations.SettingsAndAlertRequests
  refine ⟨fun s tag a e k hidle => ?group, fun s tag m w hidle => ?settings, fun s tag hidle => ?read,
    fun s => ?status⟩
  case group =>
    have hrun : exec (.setGroup tag a e k) s = .next (reqSetGroup tag a e k (taken s 6)) := next_onRequest hidle 6 _
    rw [hrun]
    refine ⟨fun h => congrArg _ (reqSetGroup_range ?_), fun hlow hhigh hprimary he hk => ?_⟩
    · rw [← Bool.not_eq_true, groupAddressOk_iff]
      omega
    · exact congrArg _ (reqSetGroup_ok (groupAddressOk_iff.2 ⟨hlow, hhigh, hprimary⟩) he hk)
  case settings =>
    have hrun : exec (.setAlerts tag m w) s = .next (reqSetAlerts tag m w (taken s 6)) := next_onRequest hidle 6 _
    rw [hrun]
    exact ⟨fun h => congrArg _ (reqSetAlerts_range h), fun mask hm hw => congrArg _ (reqSetAlerts_ok hm hw)⟩
  case read =>
    have hrun : exec (.readAlerts tag) s = .next (reqReadAlerts tag (taken s 3)) := next_onRequest hidle 3 _
    rw [hrun]
    unfold reqReadAlerts
    rw [List.length_take, List.length_drop, Nat.min_comm, List.flatMap_congr (fun a _ => alert_bytes_eq a)]
    rfl
  case status =>
    refine ⟨alertLow_iff, ?_⟩
    unfold State.statusBytes
    rw [← alertFlag_eq]
    cases s.engine <;> rfl

end Sys2Proof.ManagementPort

/-! PROOFS. Request messages: their bytes read back, how an IDLE part judges and acknowledges a write, and each request's
row as the write of its message. -/

namespace Sys2Proof.ManagementPort

open Sys2Proof Sys2Proof.Machine Sys2Proof.Safety Sys2Proof.ProfileTable

/-! ### Wider values in parameters -/

theorem wordBytes_wordOf (hi lo : Byte) : wordBytes (wordOf hi lo) = [hi, lo] := by
  have hhi : hiByte (wordOf hi lo) = hi := by
    unfold hiByte wordOf
    bv_omega
  have hlo : loByte (wordOf hi lo) = lo := by
    unfold loByte wordOf
    bv_omega
  unfold wordBytes
  rw [hhi, hlo]

/-- An even number of bytes, taken as words, spells those bytes. -/
theorem flatMap_wordsOf : ∀ {n : Nat} {bs : List Byte}, bs.length = 2 * n → (wordsOf bs).flatMap wordBytes = bs
  | 0, _, h => by
    rw [List.length_eq_zero_iff.1 h]
    rfl
  | n + 1, [], h => by cases h
  | n + 1, [b], h => by
    rw [List.length_singleton] at h
    omega
  | n + 1, hi :: lo :: rest, h => by
    have hrest : rest.length = 2 * n := by
      rw [List.length_cons, List.length_cons] at h
      omega
    rw [wordsOf, List.flatMap_cons, flatMap_wordsOf hrest, wordBytes_wordOf]
    rfl

/-! ### Parameters read back (section 11.1) -/

theorem params_writeKnots_length (h : RawHandle) (first : Word) (count : Byte) (ks : List Word) :
    (Request.writeKnots h first count ks).params.length = 5 + 2 * ks.length := by
  unfold Request.params
  rw [List.length_append, length_wordBytes]
  rfl

/-- A well-formed WRITE_KNOTS carries as many knots as it says, at most 29 (R166, R180). -/
theorem wellFormed_writeKnots {h : RawHandle} {first : Word} {count : Byte} {ks : List Word}
    (hw : (Request.writeKnots h first count ks).wellFormed = true) : ks.length = count.toNat ∧ count.toNat ≤ 29 := by
  simpa [Request.wellFormed] using hw

theorem params_length_le {r : Request} (hw : r.wellFormed = true) : r.params.length ≤ 64 := by
  cases r with
  | writeKnots h first count ks =>
    obtain ⟨hlen, hmax⟩ := wellFormed_writeKnots hw
    rw [params_writeKnots_length]
    omega
  | _ => exact Nat.le_of_ble_eq_true rfl

theorem code_mem_requestCodes (r : Request) : requestCodes.contains r.code = true := by
  cases r <;> rfl

/-- The parameters of a well-formed request spell it. -/
theorem parseParams_params {r : Request} (hw : r.wellFormed = true) : parseParams r.code r.params = some r := by
  cases r with
  | writeKnots h first count ks =>
    obtain ⟨hlen, -⟩ := wellFormed_writeKnots hw
    have hparse : parseParams 0x14 (Request.writeKnots h first count ks).params =
        if (ks.flatMap wordBytes).length = 2 * count.toNat then
          some (.writeKnots h (wordOf (hiByte first) (loByte first)) count (wordsOf (ks.flatMap wordBytes)))
        else none := rfl
    have heven : (ks.flatMap wordBytes).length = 2 * count.toNat := by rw [length_wordBytes, hlen]
    exact hparse.trans (by rw [if_pos heven, wordOf_bytes, wordsOf_wordBytes])
  | _ => simp [Request.code, Request.params, RawHandle.bytes, wordBytes, parseParams, wordOf_bytes]

/-- Parameters that spell a request under a code are that request's, and the code its own: line by line of the table of
section 11.1, a list of the line's length is taken and no other. -/
theorem parseParams_sound {code : Byte} {ps : List Byte} {r : Request} (h : parseParams code ps = some r) :
    r.code = code ∧ r.params = ps := by
  unfold parseParams at h
  split at h
  -- WRITE_KNOTS, the one line whose length its count byte gives
  case h_5 hcode =>
    split at h
    · next i v f1 f0 count ks =>
      split at h
      · next heven =>
        cases h
        refine ⟨BitVec.eq_of_toNat_eq hcode.symm, ?_⟩
        simp only [Request.params, RawHandle.bytes, flatMap_wordsOf heven, wordBytes_wordOf, List.cons_append,
          List.nil_append]
      · cases h
    · cases h
  -- a code outside the table
  case h_30 => cases h
  all_goals
    next hcode =>
      split at h
      · cases h
        exact ⟨BitVec.eq_of_toNat_eq hcode.symm, by simp [Request.params, RawHandle.bytes, wordBytes_wordOf]⟩
      · cases h

/-! ### Writes judged (R166, R180) -/

/-- A message whose parameters are as many as its length byte says, at most 64, is judged by its code. -/
theorem judgeRequest_complete {code tag len : Byte} {ps : List Byte} (hmax : len.toNat ≤ 64)
    (hlen : ps.length = len.toNat) : judgeRequest (code :: tag :: len :: ps) =
      if requestCodes.contains code then (parseParams code ps).elim (.format code tag) (.taken tag)
      else .unknown code tag := by
  have hok : ¬ (64 < len.toNat ∨ ps.length ≠ len.toNat) := by omega
  unfold judgeRequest
  dsimp only
  rw [if_neg hok]
  cases parseParams code ps <;> rfl

theorem judgeRequest_length {code tag len : Byte} {ps : List Byte} (h : 64 < len.toNat ∨ ps.length ≠ len.toNat) :
    judgeRequest (code :: tag :: len :: ps) = .format code tag := if_pos h

theorem judgeRequest_unknown {code tag len : Byte} {ps : List Byte} (hmax : len.toNat ≤ 64)
    (hlen : ps.length = len.toNat) (hcode : code ∉ requestCodes) :
    judgeRequest (code :: tag :: len :: ps) = .unknown code tag := by
  rw [judgeRequest_complete hmax hlen, if_neg (by rwa [List.contains_iff_mem])]

/-- Parameters that no request of the code has are answered FORMAT. -/
theorem judgeRequest_format {code tag len : Byte} {ps : List Byte} (hmax : len.toNat ≤ 64)
    (hlen : ps.length = len.toNat) (hcode : code ∈ requestCodes) (hnone : ∀ r : Request, r.params = ps → r.code ≠ code) :
    judgeRequest (code :: tag :: len :: ps) = .format code tag := by
  have hparse : parseParams code ps = none := by
    rw [Option.eq_none_iff_forall_ne_some]
    intro r hr
    obtain ⟨hrcode, hparams⟩ := parseParams_sound hr
    exact hnone r hparams hrcode
  rw [judgeRequest_complete hmax hlen, if_pos (List.contains_iff_mem.2 hcode), hparse, Option.elim_none]

/-- A request message is judged as the request that it was made of. -/
theorem judgeRequest_encodeRequest (tag : Byte) {r : Request} (hw : r.wellFormed = true) :
    judgeRequest (encodeRequest tag r) = .taken tag r := by
  have hmax := params_length_le hw
  have hlen : (BitVec.ofNat 8 r.params.length).toNat = r.params.length := by
    rw [BitVec.toNat_ofNat]
    omega
  unfold encodeRequest
  rw [judgeRequest_complete (by omega) hlen.symm, if_pos (code_mem_requestCodes r), parseParams_params hw,
    Option.elim_some]

/-! ### Acknowledge bits (R166) -/

theorem requestAcks_getElem? {code tag len : Byte} {ps : List Byte} {i : Nat}
    (hi : i < (requestAcks (code :: tag :: len :: ps)).length) :
    (requestAcks (code :: tag :: len :: ps))[i]? = some (decide (i < 4 ∨ (i < 4 + len.toNat ∧ i < 68))) := by
  unfold requestAcks at hi ⊢
  cases i with
  | zero => rfl
  | succ i =>
    rw [List.length_cons, List.length_map, List.length_range, Nat.add_lt_add_iff_right] at hi
    rw [List.getElem?_cons_succ, List.getElem?_map, List.getElem?_range hi, Option.map_some, Option.some_inj,
      Bool.eq_iff_iff, decide_eq_true_iff]
    unfold ackRequestByte
    simp only [Bool.or_eq_true, Bool.and_eq_true, decide_eq_true_eq]
    omega

/-! ### The rows that bring a message (R165, R166, R169) -/

theorem writeRequest_eq {message : List Byte} (h : message ≠ []) (s : State) :
    s.writeRequest message = s.onMessage message (fun u => u.answerJudged runRequest (judgeRequest message)) := by
  cases message with
  | nil => exact absurd rfl h
  | cons _ _ => rfl

theorem exec_windowSelect_request (message : List Byte) (s : State) :
    exec (.windowSelect 0x01 message) s = .next (s.writeRequest message) := rfl

/-- A message of at most 64 parameter bytes is acknowledged whole by an IDLE part, and NACKed whole by any other. -/
theorem onMessage_encodeRequest (tag : Byte) {r : Request} (h : r.params.length ≤ 64) (f : State → State) (s : State) :
    s.onMessage (encodeRequest tag r) f = s.onRequest (r.params.length + 3) f := by
  by_cases hidle : s.engine = .idle
  · rw [onMessage_idle _ _ hidle, onRequest_idle _ _ hidle, requestAcks_encodeRequest tag r h]
  · rw [onMessage_not_idle _ _ hidle, onRequest_not_idle _ _ hidle, length_encodeRequest]

/-- A request's row is the write of its message, carried out as the request (log entry 8). -/
theorem exec_requestRow (tag : Byte) (r : Request) (s : State) :
    exec (requestRow tag r) s = .next (s.onMessage (encodeRequest tag r) (runRequest tag r)) := by
  cases r with
  | writeKnots h first count ks => rfl
  | _ =>
    rw [onMessage_encodeRequest tag (params_length_le rfl)]
    rfl

theorem encodeRequest_ne_nil (tag : Byte) (r : Request) : encodeRequest tag r ≠ [] := List.cons_ne_nil _ _

/-- Settles O57: the bytes line by line of the table, then the write of a message as the request that it spells. -/
theorem requestBytesReadBack : Obligations.RequestBytesReadBack := by
  unfold Obligations.RequestBytesReadBack
  refine ⟨fun tag r => ?bytes, fun tag r hw => ⟨judgeRequest_encodeRequest tag hw, fun s => ?row⟩⟩
  case bytes =>
    cases r with
    | writeKnots h first count ks =>
      unfold encodeRequest
      rw [params_writeKnots_length]
      rfl
    | _ => rfl
  case row =>
    rw [exec_windowSelect_request, writeRequest_eq (encodeRequest_ne_nil tag r), judgeRequest_encodeRequest tag hw,
      exec_requestRow]
    rfl

/-- What an IDLE part answers a write that is no request with (R166). -/
theorem writeRequest_idle {s : State} {message : List Byte} (hidle : s.engine = .idle) (h : message ≠ []) :
    s.writeRequest message =
      (s.selectWindow .request (requestAcks message)).answerJudged runRequest (judgeRequest message) := by
  rw [writeRequest_eq h, onMessage_idle _ _ hidle]

/-- Settles O58: the judgement byte by byte, and an engine that is not IDLE, whichever row brings the bytes. -/
theorem requestWritesJudged : Obligations.RequestWritesJudged := by
  unfold Obligations.RequestWritesJudged
  refine ⟨fun s message code tag hidle hne => ?answers, fun code tag len ps i hi => requestAcks_getElem? hi,
    fun code => rfl, fun code tag => rfl, fun code tag len ps => ?judged, fun s message c hbusy hc hne => ?nacked⟩
  case answers =>
    have hwrite := writeRequest_idle hidle hne
    refine ⟨fun hj => congrArg _ (hwrite.trans ?_), fun hj => congrArg _ (hwrite.trans ?_)⟩
    all_goals
      rw [hj]
      rfl
  case judged => exact ⟨judgeRequest_length, judgeRequest_unknown, judgeRequest_format⟩
  case nacked =>
    have hwrite : s.writeRequest message = s.selectWindow .request (true :: List.replicate message.length false) := by
      rw [writeRequest_eq hne, onMessage_not_idle _ _ hbusy]
    rcases hc with rfl | rfl | rfl | ⟨tag, r, rfl, rfl⟩
    · exact congrArg _ hwrite
    · exact congrArg _ hwrite
    · exact congrArg _ hwrite
    · rw [exec_requestRow, onMessage_not_idle _ _ hbusy]
      rfl

end Sys2Proof.ManagementPort

/-! PROOFS. The windows of the management port: selectors, read transactions, result codes, and ABORT. -/

namespace Sys2Proof.ManagementPort

open Sys2Proof Sys2Proof.Machine Sys2Proof.Safety

/-! ### Selectors (R165) -/

/-- An unassigned selector is NACKed, and the bytes after it with it (log entry 33). -/
theorem primaryWrite_unassigned {sel : Byte} (h : sel.toNat = 0 ∨ 5 ≤ sel.toNat) (s : State) (extra : List Byte) :
    s.primaryWrite (sel :: extra) = { s with acks := List.replicate (extra.length + 1) false } := by
  have h1 : sel ≠ 0x01 := by bv_omega
  have h2 : sel ≠ 0x02 := by bv_omega
  have h3 : sel ≠ 0x03 := by bv_omega
  have h4 : sel ≠ 0x04 := by bv_omega
  unfold State.primaryWrite
  dsimp only
  rw [if_neg h1, if_neg h2, if_neg h3, if_neg h4]

/-! ### Read transactions (R165, R167) -/

theorem readWindow_response {s : State} (h : s.window = some .response) : s.readWindow = s.response.bytes := by
  unfold State.readWindow
  rw [h]

theorem readWindow_status {s : State} (h : s.window ≠ some .response) : s.readWindow = s.statusBytes := by
  unfold State.readWindow
  split
  · next hw => exact absurd hw h
  all_goals rfl

/-- A read transaction gives the window's contents, and 0x00 beyond them. -/
theorem readBytes_eq (s : State) (n : Nat) : s.readBytes n = (s.readWindow ++ List.replicate n 0).take n := by
  unfold State.readBytes
  rw [List.take_append, List.take_replicate, Nat.min_eq_left (Nat.sub_le _ _)]

/-! ### ABORT (R171) -/

section Abort

variable {s : State} {tag : Byte} {i : EntryIndex}

theorem takeAbort_finish {crc : Word} (h : s.engine = .busy tag (.finish i crc)) :
    s.takeAbort = completed s tag 0x16 .aborted [] := by
  unfold State.takeAbort
  rw [h]
  rfl

theorem takeAbort_verify (h : s.engine = .busy tag (.verify i)) : s.takeAbort = completed s tag 0x17 .aborted [] := by
  unfold State.takeAbort
  rw [h]
  rfl

/-- An aborted RESTORE_BASELINE frees its entry (R159). -/
theorem takeAbort_restore {n : Stream} (h : s.engine = .busy tag (.restore n i)) :
    s.takeAbort = completed (afterFreeing s i) tag 0x51 .aborted [] := by
  unfold State.takeAbort
  rw [h]
  rfl

theorem takeAbort_ignored (h : (∃ tag n i k p st, s.engine = .busy tag (.program n i k p st)) ∨ s.engine = .idle ∨
    (∃ n e, s.engine = .starting n e)) : s.takeAbort = s := by
  unfold State.takeAbort
  rcases h with ⟨tag, n, i, k, p, st, h⟩ | h | ⟨n, e, h⟩ <;> rw [h]

end Abort

/-- Settles O59: each selector by its own clause, the window selected for a read, the engine that an ABORT meets. -/
theorem windowsAndAbort : Obligations.WindowsAndAbort := by
  unfold Obligations.WindowsAndAbort
  refine ⟨fun s extra => ?selectors, fun s => readWindow_response, fun r => ?codes, fun s => readWindow_status,
    readBytes_eq, fun s value extra => ?abort⟩
  case selectors =>
    exact ⟨rfl, rfl, rfl, rfl, fun sel h => congrArg _ (primaryWrite_unassigned h s extra)⟩
  case codes => cases r <;> rfl
  case abort =>
    intro s' act
    have hact : act = .next s'.takeAbort := rfl
    rw [hact]
    refine ⟨?finish, ?verify, ?restore, ?ignored⟩
    case finish => exact fun tag i crc h => congrArg _ (takeAbort_finish (s := s') h)
    case verify => exact fun tag i h => congrArg _ (takeAbort_verify (s := s') h)
    case restore => exact fun tag n i h => congrArg _ (takeAbort_restore (s := s') h)
    case ignored => exact fun h => congrArg _ (takeAbort_ignored (s := s') h)

end Sys2Proof.ManagementPort

/-! PROOFS. The group address: the address and data bytes that a part acknowledges, and a group write by the part's
settings, the bus and the engine. -/

namespace Sys2Proof.ManagementPort

open Sys2Proof Sys2Proof.Machine Sys2Proof.Safety Sys2Proof.ProfileTable

/-! ### Acknowledge bits (R164, R173) -/

theorem acksAddress_iff {s : State} {address : BitVec 7} {read : Bool} :
    s.acksAddress address read = true ↔ address = s.primaryAddress ∨
      (s.groupEnabled = true ∧ s.acknowledger = true ∧ address = s.groupAddress ∧ read = false) := by
  unfold State.acksAddress
  simp only [Bool.or_eq_true, Bool.and_eq_true, decide_eq_true_eq, Bool.not_eq_true', and_assoc]

theorem isIdle_iff {e : Engine} : e.isIdle = true ↔ e = .idle := by
  cases e <;> simp [Engine.isIdle]

section Acks

variable {s : State} {sel : Byte} (message : List Byte)

/-- A part that is no acknowledger, or a selector that is not REQUEST's: every byte is NACKed. -/
theorem groupAcks_none (h : s.acknowledger = false ∨ sel ≠ 0x01) :
    s.groupAcks (sel :: message) = List.replicate (message.length + 1) false := by
  have hoff : ¬ (s.acknowledger && decide (sel = 0x01)) = true := by
    rw [Bool.and_eq_true, decide_eq_true_iff, not_and_or, Bool.not_eq_true]
    exact h
  unfold State.groupAcks
  exact if_neg hoff

theorem groupAcks_idle (h : s.acknowledger = true) (hidle : s.engine = .idle) :
    s.groupAcks (0x01 :: message) = requestAcks message := by
  unfold State.groupAcks
  rw [h, hidle]
  rfl

theorem groupAcks_not_idle (h : s.acknowledger = true) (hbusy : s.engine ≠ .idle) :
    s.groupAcks (0x01 :: message) = true :: List.replicate message.length false := by
  have hoff : s.engine.isIdle = false := Bool.eq_false_iff.2 (mt isIdle_iff.1 hbusy)
  unfold State.groupAcks
  rw [h, hoff]
  rfl

end Acks

/-! ### Requests and the record of the write that brings them -/

/-- s with the record of another write: the window selected and the acknowledge bits driven. -/
def withWrite (s : State) (w : Option Window) (acks : List Bool) : State := { s with window := w, acks := acks }

/-- The update neither reads nor writes the record of the latest write. -/
def IgnoresWrite (f : State → State) : Prop := ∀ s w acks, f (withWrite s w acks) = withWrite (f s) w acks

theorem IgnoresWrite.foldl {α : Type} {f : State → α → State} (hf : ∀ a, IgnoresWrite (f · a)) (l : List α) :
    IgnoresWrite (fun s => l.foldl f s) := by
  intro s w acks
  induction l generalizing s with
  | nil => rfl
  | cons a l ih => exact (congrArg (l.foldl f) (hf a s w acks)).trans (ih _)

theorem emptyList_ignoresWrite (n : Stream) : IgnoresWrite (State.emptyList · n) := fun s w acks =>
  congrArg (State.setList · n { s.lists[n] with edits := [] })
    (IgnoresWrite.foldl (f := fun s (e : Edit) => s.releasePending e.handle.index) (fun _ _ _ _ => rfl) s.lists[n].edits
      s w acks)

theorem apply_ignoresWrite (n : Stream) : IgnoresWrite (State.apply · n) := by
  intro s w acks
  have hsettled := IgnoresWrite.foldl (f := fun s e => s.settleEdit n e) (fun _ _ _ _ => rfl) s.lists[n].edits
    (s.setView n (appliedView s n)) w acks
  have hentries := congrArg State.entries hsettled
  change settledEntries (withWrite s w acks) n = settledEntries s n at hentries
  dsimp only
  rw [apply_eq, apply_eq, hentries]
  rfl

theorem makePoint_ignoresWrite (n : Stream) : IgnoresWrite (State.makePoint · n) := by
  intro s w acks
  by_cases hdue : DueOn s n
  · exact (makePoint_due (s := withWrite s w acks) hdue).trans ((apply_ignoresWrite n (counted s n) w acks).trans
      (congrArg (withWrite · w acks) (makePoint_due hdue).symm))
  · exact (makePoint_not_due (s := withWrite s w acks) hdue).trans
      (congrArg (withWrite · w acks) (makePoint_not_due hdue).symm)

/-- The checks of a COMMIT read the records, never the write. -/
theorem checkCommits_withWrite (s : State) (w : Option Window) (acks : List Bool) (t : Target) (l : List Stream) :
    (withWrite s w acks).checkCommits t l = s.checkCommits t l := by
  induction l with
  | nil => rfl
  | cons n l ih =>
    have hcheck : (withWrite s w acks).checkCommit t n = s.checkCommit t n := rfl
    unfold State.checkCommits
    rw [hcheck, ih]

theorem reqCommit_ignoresWrite (tag m kind : Byte) (count : Word) : IgnoresWrite (reqCommit tag m kind count) := by
  intro s w acks
  unfold reqCommit
  split
  · split
    · rfl
    · rw [checkCommits_withWrite]
      split
      · rfl
      · next targets _ =>
        exact congrArg (State.respond · tag 0x25 .ok _)
          (IgnoresWrite.foldl (f := fun s (p : Stream × Word) => s.arm p.1 p.2) (fun _ _ _ _ => rfl) targets s w acks)
  · rfl

theorem reqWithdraw_ignoresWrite (tag m : Byte) : IgnoresWrite (reqWithdraw tag m) := by
  intro s w acks
  unfold reqWithdraw
  split
  · rfl
  · exact congrArg (State.respond · tag 0x26 .ok _)
      (IgnoresWrite.foldl (f := State.disarm) (fun _ _ _ _ => rfl) _ s w acks)

theorem reqDiscard_ignoresWrite (tag m : Byte) : IgnoresWrite (reqDiscard tag m) := by
  intro s w acks
  unfold reqDiscard
  split
  · rfl
  · exact congrArg (State.respond · tag 0x27 .ok _) (IgnoresWrite.foldl emptyList_ignoresWrite _ s w acks)

theorem reqPoint_ignoresWrite (tag m : Byte) : IgnoresWrite (reqPoint tag m) := by
  intro s w acks
  unfold reqPoint
  split
  · rfl
  · next mask _ =>
    have hpoints := IgnoresWrite.foldl makePoint_ignoresWrite (maskStreams mask) s w acks
    dsimp only at hpoints ⊢
    rw [hpoints]
    rfl

theorem reqClearCounts_ignoresWrite (tag m : Byte) : IgnoresWrite (reqClearCounts tag m) := by
  intro s w acks
  unfold reqClearCounts
  split
  · rfl
  · exact congrArg (State.respond · tag 0x32 .ok _)
      (IgnoresWrite.foldl (f := State.clearCount) (fun _ _ _ _ => rfl) _ s w acks)

/-- The requests that a part executes on its group address (R174) leave the record of the write alone. -/
theorem runRequest_ignoresWrite (tag : Byte) {r : Request} (h : groupRequest r = true) :
    IgnoresWrite (runRequest tag r) := by
  cases r with
  | commit m kind n => exact reqCommit_ignoresWrite tag m kind n
  | withdraw m => exact reqWithdraw_ignoresWrite tag m
  | discard m => exact reqDiscard_ignoresWrite tag m
  | point m => exact reqPoint_ignoresWrite tag m
  | clearCounts m => exact reqClearCounts_ignoresWrite tag m
  | _ => cases h

theorem runGroupRequest_executed (tag : Byte) {r : Request} (h : groupRequest r = true) (s : State) :
    runGroupRequest tag r s = runRequest tag r s := by
  cases r with
  | commit _ _ _ => rfl
  | withdraw _ => rfl
  | discard _ => rfl
  | point _ => rfl
  | clearCounts _ => rfl
  | _ => cases h

theorem runGroupRequest_refused (tag : Byte) {r : Request} (h : groupRequest r = false) (s : State) :
    runGroupRequest tag r s = s.respond tag r.code .groupRefused [] := by
  cases r with
  | commit _ _ _ => cases h
  | withdraw _ => cases h
  | discard _ => cases h
  | point _ => cases h
  | clearCounts _ => cases h
  | _ => rfl

/-! ### The write on the bus (R172 to R175) -/

section Bus

variable {s : State} {a : BitVec 7} {others : OtherAcknowledgers} {bytes message : List Byte}

theorem addressed_iff : (s.groupEnabled && decide (s.groupAddress = a)) = true ↔
    s.groupEnabled = true ∧ s.groupAddress = a := by
  rw [Bool.and_eq_true, decide_eq_true_iff]

theorem exec_groupWrite_ignored (h : s.groupEnabled = false ∨ s.groupAddress ≠ a) :
    exec (.groupWrite a others bytes) s = .next s := by
  refine if_neg (mt addressed_iff.1 ?_)
  rwa [not_and_or, Bool.not_eq_true]

theorem othersAckRequest_iff : othersAckRequest others = true ↔ others = .ready := by
  cases others <;> simp [othersAckRequest]

/-- Who acknowledges the first request byte has acknowledged the selector. -/
theorem othersAckSelector_of_request (h : othersAckRequest others = true) : othersAckSelector others = true := by
  rw [othersAckRequest_iff.1 h]
  rfl

/-- The bus acknowledges selector and first request byte exactly where R173 and R175 say. -/
theorem busAcks_iff {sel : Byte} :
    ((s.acknowledger || othersAckSelector others) && decide (sel = 0x01) && decide (message ≠ [])
        && ((s.acknowledger && s.engine.isIdle) || othersAckRequest others)) = true ↔
      sel = 0x01 ∧ message ≠ [] ∧ groupWriteTaken s others := by
  have hselector := othersAckSelector_of_request (others := others)
  unfold groupWriteTaken
  simp only [Bool.and_eq_true, Bool.or_eq_true, decide_eq_true_eq, isIdle_iff, ← othersAckRequest_iff]
  tauto

variable (hon : s.groupEnabled = true) (ha : s.groupAddress = a)
include hon ha

/-- A write on the enabled group address, by what the bus acknowledges. -/
theorem exec_groupWrite_cons {sel : Byte} : exec (.groupWrite a others (sel :: message)) s =
    if sel = 0x01 ∧ message ≠ [] ∧ groupWriteTaken s others then
      .next ({ s with acks := s.groupAcks (sel :: message) }.closeGroupWrite message)
    else .next { s with acks := s.groupAcks (sel :: message) } :=
  (if_pos (addressed_iff.2 ⟨hon, ha⟩)).trans (if_congr busAcks_iff rfl rfl)

theorem exec_groupWrite_discarded (h : bytes.head? ≠ some 0x01 ∨ bytes.length ≤ 1 ∨ ¬ groupWriteTaken s others) :
    exec (.groupWrite a others bytes) s = .next { s with acks := s.groupAcks bytes } := by
  cases bytes with
  | nil => exact if_pos (addressed_iff.2 ⟨hon, ha⟩)
  | cons sel message =>
    rw [exec_groupWrite_cons hon ha]
    refine if_neg ?_
    rintro ⟨rfl, hne, htaken⟩
    rcases h with hsel | hlen | hnot
    · exact hsel rfl
    · exact hne (List.length_eq_zero_iff.1 (Nat.le_zero.1 (Nat.le_of_succ_le_succ hlen)))
    · exact hnot htaken

variable (hne : message ≠ []) (htaken : groupWriteTaken s others)
include hne htaken

theorem exec_groupWrite_closed : exec (.groupWrite a others (0x01 :: message)) s =
    .next ({ s with acks := s.groupAcks (0x01 :: message) }.closeGroupWrite message) := by
  rw [exec_groupWrite_cons hon ha, if_pos ⟨rfl, hne, htaken⟩]

theorem exec_groupWrite_missed (hbusy : s.engine ≠ .idle) : exec (.groupWrite a others (0x01 :: message)) s =
    .next { s with acks := s.groupAcks (0x01 :: message), alerts := insertAlert .groupMissed s.alerts } := by
  rw [exec_groupWrite_closed hon ha hne htaken]
  unfold State.closeGroupWrite
  split
  · next hidle => exact absurd hidle hbusy
  · rfl
  · rfl

theorem exec_groupWrite_judged (hidle : s.engine = .idle) : exec (.groupWrite a others (0x01 :: message)) s =
    .next ({ s with acks := s.groupAcks (0x01 :: message) }.answerJudged runGroupRequest (judgeRequest message)) := by
  rw [exec_groupWrite_closed hon ha hne htaken]
  unfold State.closeGroupWrite
  dsimp only
  rw [hidle]

/-- A request executed on the group address does what its row does, but for the record of the write (R174). -/
theorem exec_groupWrite_executed (hidle : s.engine = .idle) {tag : Byte} {r : Request} {t : State}
    (hj : judgeRequest message = .taken tag r) (hr : groupRequest r = true) (ht : exec (requestRow tag r) s = .next t) :
    exec (.groupWrite a others (0x01 :: message)) s =
      .next { t with acks := s.groupAcks (0x01 :: message), window := s.window } := by
  have hignores := runRequest_ignoresWrite tag hr
  have hrow : t = withWrite (runRequest tag r s) (some .request) (requestAcks (encodeRequest tag r)) := by
    rw [exec_requestRow, onMessage_idle _ _ hidle] at ht
    exact (Host.Outcome.next.inj ht).symm.trans (hignores s _ _)
  have hgroup : runRequest tag r { s with acks := s.groupAcks (0x01 :: message) } =
      withWrite (runRequest tag r s) s.window (s.groupAcks (0x01 :: message)) := hignores s _ _
  rw [exec_groupWrite_judged hon ha hne htaken hidle, hj, State.answerJudged, runGroupRequest_executed tag hr,
    hgroup, hrow]
  rfl

end Bus

/-- Settles O60: the acknowledge bits, then a group write row by row of R174's table; what a WITHDRAW and a POINT do is
read off their own rows. -/
theorem groupWriteByTable : Obligations.GroupWriteByTable := by
  unfold Obligations.GroupWriteByTable
  refine ⟨fun s address read => acksAddress_iff, fun s message => ?acks, fun s a others bytes message => ?writes⟩
  case acks =>
    exact ⟨fun h => groupAcks_none message (Or.inl h), groupAcks_idle message, groupAcks_not_idle message,
      fun sel h => groupAcks_none message (Or.inr h)⟩
  case writes =>
    refine ⟨exec_groupWrite_ignored, fun hon ha => ⟨exec_groupWrite_discarded hon ha, ?_⟩⟩
    rintro rfl hne htaken
    refine ⟨exec_groupWrite_missed hon ha hne htaken, fun hidle => ?_⟩
    have hjudged := exec_groupWrite_judged hon ha hne htaken hidle
    refine ⟨fun code tag hj => ?format, fun code tag hj => ?unknown, fun tag r hj hr => ?refused,
      fun tag r hj hr => ?executed, fun tag m mask hj hm => ?withdraw, fun tag m mask hj hm => ?point⟩
    case format =>
      rw [hjudged, hj]
      rfl
    case unknown =>
      rw [hjudged, hj]
      rfl
    case refused =>
      rw [hjudged, hj, State.answerJudged, runGroupRequest_refused tag hr]
      rfl
    case executed =>
      have hrow := exec_requestRow tag r s
      exact ⟨_, hrow, exec_groupWrite_executed hon ha hne htaken hidle hj hr hrow⟩
    case withdraw =>
      obtain ⟨t, w, hrow, ht, hlists, hw⟩ := (withdrawAndDiscard.1 s tag m hidle).2 mask hm
      refine ⟨_, w, exec_groupWrite_executed hon ha hne htaken hidle hj rfl hrow, ?_, hlists, hw⟩
      rw [ht]
      rfl
    case point =>
      obtain ⟨t, hrow, ht, hpoints, hpublished⟩ := (EditsAndPoints.pointMakesPoints s tag m hidle).2 mask hm
      refine ⟨_, exec_groupWrite_executed hon ha hne htaken hidle hj rfl hrow, ?_, hpoints, hpublished⟩
      rw [ht]
      rfl

end Sys2Proof.ManagementPort

/-! PROOFS. The queue of commands: a step takes its front, and no command writes it or fails to answer a next state
(95_what_each_step_holds.md). -/

namespace Sys2Proof.CommandQueue

open Sys2Proof Sys2Proof.Machine Sys2Proof.Safety Sys2Proof.ProfileTable
open Sys2Proof.EditsAndPoints (makePoint_eq_offer countEdge_eq_offer foldl_offer_frame)
open Sys2Proof.ManagementPort (exec_requestRow runGroupRequest_executed runGroupRequest_refused)

/-! ### Shared operations -/

@[simp] theorem reportDamage_pending (s : State) (i : EntryIndex) : (s.reportDamage i).pending = s.pending := by
  unfold State.reportDamage
  split <;> rfl

@[simp] theorem freeEntry_pending (s : State) (i : EntryIndex) : (s.freeEntry i).pending = s.pending := rfl

@[simp] theorem writeKnots_pending (s : State) (i : EntryIndex) (first : Nat) (ks : List Knot) :
    (s.writeKnots i first ks).pending = s.pending := by
  rw [writeKnots_frame]

@[simp] theorem loadKnots_pending (s : State) (i : EntryIndex) (f : SlotFields) (g : Geometry) (us : List LoadUpset) :
    (s.loadKnots i f g us).pending = s.pending := by
  rw [loadKnots_frame]

/-- An allocation that succeeds leaves the queue. -/
theorem allocate_pending {s t : State} {pr : Profile} {i : EntryIndex} (h : s.allocate pr = .ok (i, t)) :
    t.pending = s.pending := by
  rcases allocate_cases s pr with ⟨r, ha⟩ | ⟨j, -, -, ha⟩
  · rw [ha] at h
    cases h
  · rw [ha] at h
    cases h
    rw [granted_frame]

/-- Serving lookups never touches the queue. -/
theorem serves_pending {s t : State} (h : Serves s t) : t.pending = s.pending := by rw [h.frame]

/-! ### Requests -/

section Requests

variable (tag : Byte) (s : State)

/-- CREATE allocates (R6), and answers. -/
theorem reqCreate_pending (columns rows channels format : Byte) (label : Word) :
    (reqCreate tag columns rows channels format label s).pending = s.pending := by
  unfold reqCreate
  split
  · split
    · next ha => exact (allocate_pending ha :)
    · rfl
  · rfl

/-- RESTORE_BASELINE allocates (R158), and the engine becomes BUSY. -/
theorem reqRestoreBaseline_pending (slot : Byte) : (reqRestoreBaseline tag slot s).pending = s.pending := by
  unfold reqRestoreBaseline
  split
  · rfl
  · split
    · rfl
    · rfl
    · split
      · rfl
      · next ha => exact (allocate_pending ha :)

theorem reqWriteKnots_pending (h : RawHandle) (first : Word) (count : Byte) (ks : List Word) :
    (reqWriteKnots tag h first count ks s).pending = s.pending := by
  unfold reqWriteKnots
  repeat' split
  all_goals simp only [respond_pending, writeKnots_pending]

theorem reqReadKnots_pending (h : RawHandle) (first : Word) (count : Byte) :
    (reqReadKnots tag h first count s).pending = s.pending := by
  unfold reqReadKnots
  repeat' split
  all_goals simp only [respond_pending, reportDamage_pending]

/-- COMMIT arms the lists of its mask one after another (R76). -/
theorem reqCommit_pending (mask kind : Byte) (n : Word) : (reqCommit tag mask kind n s).pending = s.pending := by
  unfold reqCommit
  split
  · split
    · rfl
    · split
      · rfl
      · rw [foldl_arm_frame]
        rfl
  · rfl

theorem reqWithdraw_pending (mask : Byte) : (reqWithdraw tag mask s).pending = s.pending := by
  unfold reqWithdraw
  split
  · rfl
  · rw [foldl_disarm_frame]
    rfl

theorem reqDiscard_pending (mask : Byte) : (reqDiscard tag mask s).pending = s.pending := by
  unfold reqDiscard
  split
  · rfl
  · rw [foldl_emptyList_frame]
    rfl

/-- POINT makes the points of its mask one after another (R96), an apply within each where the stream is due (R95). -/
theorem reqPoint_pending (mask : Byte) : (reqPoint tag mask s).pending = s.pending := by
  unfold reqPoint
  split
  · rfl
  · rw [makePoint_eq_offer, foldl_offer_frame]
    rfl

theorem reqClearCounts_pending (mask : Byte) : (reqClearCounts tag mask s).pending = s.pending := by
  unfold reqClearCounts
  split
  · rfl
  · rw [StepKeeps.foldl_clearCount_frame]
    rfl

/-- SET_PORT ends the port's lookups where it disables the port (R134). -/
theorem reqSetPort_pending (port enable stallLimit : Byte) :
    (reqSetPort tag port enable stallLimit s).pending = s.pending := by
  unfold reqSetPort
  split
  · next p _ _ _ =>
    dsimp only
    split
    · rw [respond_pending, serves_pending (Serves.disablePort _ p)]
      rfl
    · rfl
  · rfl

/-- No request writes the queue. The requests named first write through operations with lemmas of their own; each of the
others answers, at the end of its checks, with fields of the state written out, the queue not among them. -/
theorem runRequest_pending (r : Request) : (runRequest tag r s).pending = s.pending := by
  cases r with
  | create cols rows ch f l => exact reqCreate_pending tag s cols rows ch f l
  | writeKnots h first count ks => exact reqWriteKnots_pending tag s h first count ks
  | readKnots h first count => exact reqReadKnots_pending tag s h first count
  | commit m kind n => exact reqCommit_pending tag s m kind n
  | withdraw m => exact reqWithdraw_pending tag s m
  | discard m => exact reqDiscard_pending tag s m
  | point m => exact reqPoint_pending tag s m
  | clearCounts m => exact reqClearCounts_pending tag s m
  | setPort p e l => exact reqSetPort_pending tag s p e l
  | restoreBaseline n => exact reqRestoreBaseline_pending tag s n
  | _ =>
    dsimp only [runRequest, reqDelete, reqQueryProfile, reqQueryStore, reqFinish, reqVerify, reqConfigureView,
      reqQueryView, reqAttach, reqDetach, reqMove, reqQueryEdits, reqSetPoints, reqQueryPoints, reqQueryPort,
      reqProgramBaseline, reqQuerySlot, reqSetGroup, reqSetAlerts, reqReadAlerts]
    repeat' split
    all_goals rfl

/-- A request on the group address is executed as on the primary one, or refused (R174). -/
theorem runGroupRequest_pending (r : Request) : (runGroupRequest tag r s).pending = s.pending := by
  cases hr : groupRequest r with
  | true =>
    rw [runGroupRequest_executed tag hr]
    exact runRequest_pending tag s r
  | false =>
    rw [runGroupRequest_refused tag hr]
    rfl

end Requests

/-! ### Writes to the part (R165 to R174) -/

section Writes

variable {s : State}

/-- A request message is taken by an IDLE engine, or NACKed. -/
theorem onMessage_pending (message : List Byte) {f : State → State} (hf : ∀ u : State, (f u).pending = u.pending) :
    (s.onMessage message f).pending = s.pending := by
  by_cases hidle : s.engine = .idle
  · rw [onMessage_idle _ _ hidle]
    exact hf _
  · rw [onMessage_not_idle _ _ hidle]
    rfl

theorem answerJudged_pending {run : Byte → Request → State → State}
    (hrun : ∀ tag r, (run tag r s).pending = s.pending) (j : Judged) : (s.answerJudged run j).pending = s.pending := by
  cases j with
  | format code tag => rfl
  | unknown code tag => rfl
  | taken tag r => exact hrun tag r

theorem writeRequest_pending (message : List Byte) : (s.writeRequest message).pending = s.pending := by
  cases message with
  | nil => rfl
  | cons b bytes => exact onMessage_pending _ fun u => answerJudged_pending (fun tag r => runRequest_pending tag u r) _

theorem takeAbort_pending : s.takeAbort.pending = s.pending := by
  unfold State.takeAbort
  split <;> rfl

/-- A write to the primary address, by the window that its first byte selects (R165). -/
theorem primaryWrite_pending (bytes : List Byte) : (s.primaryWrite bytes).pending = s.pending := by
  unfold State.primaryWrite
  split
  · rfl
  · split
    · exact writeRequest_pending _
    · split
      · rfl
      · split
        · split
          · rfl
          · exact takeAbort_pending
        · split <;> rfl

theorem closeGroupWrite_pending (message : List Byte) : (s.closeGroupWrite message).pending = s.pending := by
  unfold State.closeGroupWrite
  split
  · exact answerJudged_pending (fun tag r => runGroupRequest_pending tag s r) _
  · rfl
  · rfl

end Writes

/-! ### The ends of checks, programmings and loads (R40, R43, R155, R156, R159, R162) -/

section Ends

variable {s : State}

theorem endFinish_pending (tag : Byte) (i : EntryIndex) (crc : Word) : (endFinish tag i crc s).pending = s.pending := by
  unfold endFinish
  split
  · rfl
  · split <;> rfl

theorem endVerify_pending (tag : Byte) (i : EntryIndex) : (endVerify tag i s).pending = s.pending := by
  unfold endVerify
  split
  · exact reportDamage_pending s i
  · split
    · rfl
    · exact reportDamage_pending s i

theorem endScan_pending (tag : Byte) (n : Stream) (i : EntryIndex) (key plateau : Word) :
    (endScan tag n i key plateau s).pending = s.pending := by
  unfold endScan
  split
  · exact reportDamage_pending s i
  · split
    · exact reportDamage_pending s i
    · split <;> rfl

theorem endWrite_pending (recorded : Bool) (tag : Byte) (n : Stream) (i : EntryIndex) (key plateau : Word)
    (bases : List Knot) : (endWrite recorded tag n i key plateau bases s).pending = s.pending := by
  unfold endWrite
  split
  · exact reportDamage_pending s i
  · rfl

theorem endProgram_pending (took recorded : Bool) (tag : Byte) (n : Stream) (bases : List Knot) :
    (endProgram took recorded tag n bases s).pending = s.pending := by
  unfold endProgram
  split <;> rfl

theorem endRestore_pending (us : List LoadUpset) (tag : Byte) (n : Stream) (i : EntryIndex) :
    (endRestore us tag n i s).pending = s.pending := by
  unfold endRestore
  split
  · next f g _ _ =>
    have hload := loadKnots_pending s i f g us
    dsimp only
    split
    · exact hload
    · split <;> exact hload
  · rfl

theorem beginLoad_pending (n : Stream) : (s.beginLoad n).pending = s.pending := by
  rw [beginLoad_frame]

theorem completeLoad_pending (n : Stream) (entry : Option EntryIndex) (us : List LoadUpset) :
    (s.completeLoad n entry us).pending = s.pending := by
  unfold State.completeLoad
  split
  · rfl
  · rfl
  · next f g fmt _ =>
    split
    · rfl
    · next i =>
      have hload := loadKnots_pending s i f g us
      dsimp only
      split
      · split <;> exact hload
      · exact hload

theorem reportFault_pending (p : Stream) (h : Lookup) (i : EntryIndex) : (s.reportFault p h i).pending = s.pending := by
  unfold State.reportFault
  dsimp only
  split
  · exact (serves_pending (Serves.finishReset _ _)).trans (reportDamage_pending s i)
  · exact (serves_pending (Serves.endHead _ _ _)).trans (reportDamage_pending s i)

end Ends

/-! ### Outcomes -/

/-- The outcome is a next state, with the queue of s. -/
def AnswersNext (s : State) (o : Host.Outcome State Fault Refusal) : Prop := ∃ t, o = .next t ∧ t.pending = s.pending

namespace AnswersNext

variable {s : State}

theorem of_pending {t : State} (h : t.pending = s.pending) : AnswersNext s (.next t) := ⟨t, rfl, h⟩

theorem refl (s : State) : AnswersNext s (.next s) := of_pending rfl

theorem of_serves {t : State} (h : Serves s t) : AnswersNext s (.next t) := of_pending (serves_pending h)

theorem received (p : Stream) (bytes : List Byte) : AnswersNext s (.next (s.receive p bytes)) :=
  of_serves (Serves.receive s p bytes)

/-- Every request's row is the write of its message (log entry 8). -/
theorem request (tag : Byte) (r : Request) : AnswersNext s (exec (requestRow tag r) s) := by
  rw [exec_requestRow]
  exact of_pending (onMessage_pending _ fun u => runRequest_pending tag u r)

/-! ### The rows that end a long operation: nothing where none runs (log entry 7) -/

theorem finishComplete : AnswersNext s (execFinishComplete s) := by
  unfold execFinishComplete
  split
  · exact of_pending (endFinish_pending _ _ _)
  · exact refl s

theorem verifyComplete : AnswersNext s (execVerifyComplete s) := by
  unfold execVerifyComplete
  split
  · exact of_pending (endVerify_pending _ _)
  · exact refl s

theorem scanEnd : AnswersNext s (execScanEnd s) := by
  unfold execScanEnd
  split
  · exact of_pending (endScan_pending _ _ _ _ _)
  · exact refl s

theorem programWriteEnd (recorded : Bool) : AnswersNext s (execProgramWriteEnd recorded s) := by
  unfold execProgramWriteEnd
  split
  · exact of_pending (endWrite_pending _ _ _ _ _ _ _)
  · exact refl s

theorem programVerifyEnd (took recorded : Bool) : AnswersNext s (execProgramVerifyEnd took recorded s) := by
  unfold execProgramVerifyEnd
  split
  · exact of_pending (endProgram_pending _ _ _ _ _)
  · exact refl s

theorem restoreComplete (us : List LoadUpset) : AnswersNext s (execRestoreComplete us s) := by
  unfold execRestoreComplete
  split
  · exact of_pending (endRestore_pending _ _ _ _)
  · exact refl s

/-- The load of slot 3 ends the start-up, and that of any other slot begins the next (R162, R163). -/
theorem slotLoad (slot : Stream) (us : List LoadUpset) : AnswersNext s (execSlotLoad slot us s) := by
  unfold execSlotLoad
  split
  · next n entry _ =>
    have hload := completeLoad_pending (s := s) n entry us
    split
    · split
      · refine of_pending ?_
        rw [started_frame]
        exact hload
      · exact of_pending ((beginLoad_pending _).trans hload)
    · exact refl s
  · exact refl s

/-! ### The other events -/

theorem groupWrite (address : BitVec 7) (others : OtherAcknowledgers) (bytes : List Byte) :
    AnswersNext s (execGroupWrite address others bytes s) := by
  unfold execGroupWrite
  split
  · dsimp only
    split
    · exact of_pending rfl
    · split
      · exact of_pending (closeGroupWrite_pending _)
      · exact of_pending rfl
  · exact refl s

theorem boundaryEdge (line : Stream) (level : LineLevel) : AnswersNext s (execBoundaryEdge line level s) := by
  unfold execBoundaryEdge
  split
  · exact refl s
  · refine of_pending ?_
    rw [countEdge_eq_offer, foldl_offer_frame]

theorem grant : AnswersNext s (execGrant s) := by
  unfold execGrant
  split
  · split
    · exact of_pending rfl
    · exact refl s
  · exact refl s

theorem handover : AnswersNext s (execHandover s) := by
  unfold execHandover
  split
  · exact refl s
  · split
    · exact refl s
    · split
      · exact of_serves (Serves.handOver s _ _ _ _)
      · exact refl s

theorem faultReport : AnswersNext s (execFaultReport s) := by
  unfold execFaultReport
  split
  · exact refl s
  · split
    · exact refl s
    · split
      · exact refl s
      · exact of_pending (reportFault_pending _ _ _)

theorem stallExpiry (p : Stream) : AnswersNext s (execStallExpiry p s) := by
  unfold execStallExpiry
  split
  · exact of_serves (Serves.expire s p)
  · exact refl s

/-- A device reset resets every block, and the queue is no part of one (R161). -/
theorem deviceReset (moment : ResetMoment) (straps : BitVec 2) : AnswersNext s (execDeviceReset moment straps s) :=
  of_pending (beginLoad_pending (s := blocksReset s moment straps) 0)

/-! ### Every command -/

/-- Every row of the table answers a next state with the queue of s. -/
theorem exec (c : Instr) (s : State) : AnswersNext s (exec c s) := by
  cases c with
  | create tag cols rows ch f l => exact request tag (.create cols rows ch f l)
  | delete tag h => exact request tag (.delete h)
  | queryProfile tag h => exact request tag (.queryProfile h)
  | queryStore tag => exact request tag .queryStore
  | writeKnots tag h first count ks => exact request tag (.writeKnots h first count ks)
  | readKnots tag h first count => exact request tag (.readKnots h first count)
  | finish tag h crc => exact request tag (.finish h crc)
  | finishComplete => exact finishComplete
  | verify tag h => exact request tag (.verify h)
  | verifyComplete => exact verifyComplete
  | configureView tag n cols rows ch f => exact request tag (.configureView n cols rows ch f)
  | queryView tag n => exact request tag (.queryView n)
  | attach tag n h k p => exact request tag (.attach n h k p)
  | detach tag n h => exact request tag (.detach n h)
  | move tag n h k p => exact request tag (.move n h k p)
  | commit tag m kind n => exact request tag (.commit m kind n)
  | withdraw tag m => exact request tag (.withdraw m)
  | discard tag m => exact request tag (.discard m)
  | queryEdits tag n => exact request tag (.queryEdits n)
  | point tag m => exact request tag (.point m)
  | setPoints tag n src pol pre => exact request tag (.setPoints n src pol pre)
  | clearCounts tag m => exact request tag (.clearCounts m)
  | queryPoints tag => exact request tag .queryPoints
  | setPort tag p e l => exact request tag (.setPort p e l)
  | queryPort tag p => exact request tag (.queryPort p)
  | programBaseline tag n h k p => exact request tag (.programBaseline n h k p)
  | scanEnd => exact scanEnd
  | programWriteEnd recorded => exact programWriteEnd recorded
  | programVerifyEnd took recorded => exact programVerifyEnd took recorded
  | restoreBaseline tag n => exact request tag (.restoreBaseline n)
  | restoreComplete us => exact restoreComplete us
  | querySlot tag n => exact request tag (.querySlot n)
  | setGroup tag a e k => exact request tag (.setGroup a e k)
  | setAlerts tag m w => exact request tag (.setAlerts m w)
  | readAlerts tag => exact request tag .readAlerts
  | unknownRequest message => exact of_pending (writeRequest_pending message)
  | requestFormatError message => exact of_pending (writeRequest_pending message)
  | busyNack message => exact of_pending (writeRequest_pending message)
  | windowSelect selector extra => exact of_pending (primaryWrite_pending _)
  | abort value extra => exact of_pending (primaryWrite_pending _)
  | groupWrite address others bytes => exact groupWrite address others bytes
  | boundaryEdge line level => exact boundaryEdge line level
  | lookup p tag key first count => exact received p _
  | credit p n => exact received p _
  | cancel p tag => exact received p _
  | linkReset p => exact received p _
  | badMessage p bytes => exact received p _
  | linkMessageHeld p m => exact received p _
  | grant => exact grant
  | handover => exact handover
  | faultReport => exact faultReport
  | stallExpiry p => exact stallExpiry p
  | deviceReset moment straps => exact deviceReset moment straps
  | slotLoad slot us => exact slotLoad slot us
  | parityFault page offset upset => exact of_pending rfl
  | idleByte p => exact received p _

end AnswersNext

/-- Settles O2: command by command, each of its operations leaving the queue. -/
theorem everyCommandAnswersNext : Obligations.EveryCommandAnswersNext := by
  unfold Obligations.EveryCommandAnswersNext
  exact fun c s => AnswersNext.exec c s

/-- A step on a queue that is not empty. -/
theorem step_cons {s : State} {c : Instr} {rest : List Instr} (h : s.pending = c :: rest) :
    step s = exec c { s with pending := rest } := by
  unfold step
  rw [h]

/-- Settles O1: the step on a queue with c at its front, the state being written out with that queue. -/
theorem stepRunsFrontCommand : Obligations.StepRunsFrontCommand := by
  unfold Obligations.StepRunsFrontCommand
  exact fun c rest s => step_cons (s := { s with pending := c :: rest }) rfl

end Sys2Proof.CommandQueue
